-- ==== Sys2Proof/Word.lean ====
section
/-! DEFINITION. The widths of the CONTROL DATA 3400 (spec/20_memory.md R60, R62; spec/10_state.md R27). -/

namespace Sys2Proof

/-- A 48-bit storage word, A, Q or U. -/
abbrev Word := BitVec 48

/-- A 24-bit instruction, one half of a program step. -/
abbrev HalfWord := BitVec 24

/-- A 15-bit address, index register or execution address. -/
abbrev Addr := BitVec 15

/-- Which half of the program step at P executes (R27). -/
inductive Half where
  | upper | lower
deriving DecidableEq, Repr

end Sys2Proof
end

