-- ==== Sys2Proof/Config.lean ====
section
/-! DEFINITION. What one installation fixes (spec/00_scope.md R5) and the values the spec leaves open
(spec/93_implementation_defined.md U7, U8, U9, U17, U18). -/

namespace Sys2Proof

/-- The parameters of R5 that a rule depends on. They are data in the state, so that every statement is about
every installation; no step changes them. `LINE_PERIOD` is left out: it changes no order of events (log 6). -/
structure Config where
  /-- `HAS_FPO`: the 3410 floating point option is installed. -/
  hasFpo : Bool
  /-- `STORAGE_WORDS` is 16384, not 32768. -/
  smallStorage : Bool
  /-- `N_CHANNELS`: channels 0 to `channels - 1` are installed. -/
  channels : Nat
  /-- `AUTOLOAD_ENTRY` (R424). -/
  autoLoadEntry : Addr × Half
deriving DecidableEq, Repr

/-- The standard machine of R5. -/
def Config.standard : Config :=
  { hasFpo := false, smallStorage := false, channels := 1, autoLoadEntry := (0, .upper) }

/-- Free 48-bit values, one for each value of the state's counter (log 9). -/
opaque Config.freeWord : Nat → Word

/-- Free choices between two, one for each value of the state's counter (log 9). -/
opaque Config.freeBit : Nat → Bool

/-- The operation of a floating point instruction (spec/41_arithmetic.md R171). -/
inductive FpKind where
  | add | sub | mul | div
deriving DecidableEq, Repr

/-- What the open function of R171 delivers: the new A and Q, and the exponent formed, which R388 and R389 compare. -/
structure FpResult where
  a : Word
  q : Word
  exponent : Int
deriving DecidableEq, Repr, Inhabited

/-- `fp` of R171, open (decision D34): kind, A, the operand, t0 and t1. -/
opaque Config.fp : FpKind → Word → Word → Bool → Bool → FpResult

/-- Which words are a floating point zero: the format is not in the source (R171; 91_not_in_source.md N20). -/
opaque Config.fpIsZero : Word → Bool

/-- What the card reader sends for a column that is no code of Table 14-2: the source does not say
(spec/48_external_equipment.md R368; log 31). -/
opaque Config.unlistedColumn : BitVec 12 → BitVec 6

end Sys2Proof
end

