-- ==== Sys2Proof/Machine/Devices.lean ====
section
/-! DEFINITION. The external equipments of spec/48_external_equipment.md as plain data: the state of each control
that its connect, function and clear rules read or write. -/

namespace Sys2Proof.Machine

/-- The four possible I/O channels (spec/46_input_output.md R300). -/
inductive ChanId where
  | c0 | c1 | c2 | c3
deriving DecidableEq, Repr

/-- The direction of a transfer, `Dir[x]` (spec/10_state.md R38). -/
inductive Dir where
  | read | write
deriving DecidableEq, Repr

/-- An equipment's answer to a connect or function code (spec/46_input_output.md R301). -/
inductive Reply where
  | reply | reject | silent
deriving DecidableEq, Repr

/-- One selectable interrupt of an equipment: whether the program selected it, and whether its signal is up. -/
structure Irq where
  sel : Bool
  sig : Bool
deriving DecidableEq, Repr

/-- No selection and no signal. -/
def Irq.off : Irq := { sel := false, sig := false }

/-- The three interrupts that the codes 0020 to 0025 select (spec/48_external_equipment.md R355, R363, R366, R368). -/
structure Irqs where
  ready : Irq
  endOp : Irq
  abnormal : Irq
deriving DecidableEq, Repr

/-- Nothing selected. -/
def Irqs.off : Irqs := { ready := .off, endOp := .off, abnormal := .off }

/-- What the typewriter puts on its page for one code (R345, R347). -/
inductive Typed where
  | char (symbol : String)
  | space
  | backspace
  | tab
  | carriageReturn
  /-- a code of Table 7-3 whose cell the source lost, a code it does not describe, or a character that a key pressed
  during a Write may have spoilt: what appears is not stated -/
  | unstated (code : BitVec 6) (upper : Bool)
deriving DecidableEq, Repr

/-- The console typewriter and its 3692 control (R341). -/
structure Typewriter where
  /-- "power has been applied to the 3692 control logic, the typewriter is turned on" (R344) -/
  power : Bool
  connected : Bool
  abnSel : Bool
  intSig : Bool
  upperCase : Bool
  endOfLine : Bool
  typeParity : Bool
  busy : Bool
  /-- a code of a Write is being typed: "A type parity error can only occur during an output operation" (R344) -/
  typing : Bool
  /-- a transmission parity error "has occurred and has not been cleared" (R342) -/
  codeParity : Bool
  /-- a key was pressed during a Write: the next character may not be the normal one (R345) -/
  disturbed : Bool
  /-- what has been typed, in order -/
  page : List Typed
deriving DecidableEq, Repr

/-- A paper advance that a function code asked for and that is not complete (R349). -/
inductive Advance where
  | none | oneLine | twoLines | channel7 | channel8
deriving DecidableEq, Repr

/-- What the printer does to its paper (R349, R351). -/
inductive Paper where
  /-- a line of 120 external BCD codes -/
  | line (codes : List (BitVec 6))
  /-- a line for which more than 120 characters were sent: "garbled output" -/
  | garbled
  /-- the automatic advance after a line, by the selected format channels -/
  | spaced (formats : BitVec 6)
  /-- an advance by a function code -/
  | advanced (a : Advance)
deriving DecidableEq, Repr

/-- A 3655 printer as one of its two controls sees it (R348 to R352). -/
structure Printer where
  connected : Bool
  /-- the last connect code was this control's: "information will be available on the status lines" (R350) -/
  sensed : Bool
  /-- this control's reserve -/
  reserved : Bool
  /-- the other control's reserve -/
  otherReserved : Bool
  /-- Transmission Parity Error (R352) -/
  parityError : Bool
  /-- switched on and loaded -/
  online : Bool
  /-- "The printer is busy when it is printing or advancing paper" (R350) -/
  busy : Bool
  /-- a line is being printed -/
  printing : Bool
  irq : Irq
  /-- format channels 1 to 6 selected, bit i for channel i + 1 -/
  formats : BitVec 6
  suppress : Bool
  advance : Advance
  /-- the printer memory: the external BCD codes received, at most 120 (R351) -/
  memory : List (BitVec 6)
  /-- more than 120 were sent -/
  overrun : Bool
  paper : List Paper
deriving DecidableEq, Repr

/-- Which half of the paper tape station is connected (R354). -/
inductive TapeStation where
  | none | reader | punch
deriving DecidableEq, Repr

/-- What a transmission parity error falls on (spec/60_exceptions.md R391). -/
inductive Transmitted where
  | connect | function | data
deriving DecidableEq, Repr

/-- The 3691 paper tape reader/punch (R354 to R357). That its common control has one mode and one set of interrupt
selections for the reader and the punch is THE MODEL'S CHOICE (R355; log 31). -/
structure PaperTape where
  connected : TapeStation
  /-- Transmission Parity Error (R354) -/
  parityError : Bool
  /-- the cycle in process is a punch cycle: a Punch began it (R355) -/
  punchCycle : Bool
  /-- the Master Clear switch is pressed (R354) -/
  clearSwitch : Bool
  readerReady : Bool
  punchReady : Bool
  busy : Bool
  supplyLow : Bool
  /-- tape motion failure at the reader (R355) -/
  motionFailure : Bool
  readerLast : Bool
  /-- assembly mode, else character mode -/
  assembly : Bool
  irqs : Irqs
  /-- the channel's operation is in progress -/
  active : Bool
  /-- the reader has found its first 7th level hole (R357) -/
  begun : Bool
  /-- the frames of the word being assembled -/
  frames : List (BitVec 6)
  /-- the frames punched, level i at bit i - 1 -/
  punched : List (BitVec 8)
deriving DecidableEq, Repr

/-- Who holds a tape unit (R358). -/
inductive Holder where
  | free | thisControl | otherControl
deriving DecidableEq, Repr

/-- What a tape unit is doing, or did last (R360, R362). -/
inductive TapeMotion where
  | none | read | write
  | code (c : BitVec 12)
deriving DecidableEq, Repr

/-- A tape unit (R358, R361). -/
structure TapeUnit where
  /-- bank and number: bits 5..0 of the connect code -/
  number : BitVec 6
  holder : Holder
  ready : Bool
  busy : Bool
  writeEnable : Bool
  fileMark : Bool
  loadPoint : Bool
  endOfTape : Bool
  /-- rewound by Rewind Unload and not reloaded (R360) -/
  unloaded : Bool
  /-- bits 7 and 6 of the status: 0 is 200 BPI, 1 is 556 BPI, 2 is 800 BPI -/
  density : BitVec 2
  motion : TapeMotion
deriving DecidableEq, Repr

/-- A 342X or 362X magnetic tape control (R358 to R363). -/
structure MagTape where
  connected : Bool
  unit : Option (BitVec 6)
  units : List TapeUnit
  binary : Bool
  reverse : Bool
  /-- "attempted when the read/write control is busy" (R360) -/
  controlBusy : Bool
  lostData : Bool
  longParity : Bool
  vertParity : Bool
  reserveReject : Bool
  /-- a Parity Error signal on the transmission parity error line (R360) -/
  parityError : Bool
  irqs : Irqs
  /-- the channel's operation is in progress -/
  active : Bool
  /-- a record passes under the head for a Read or a Write -/
  moving : Bool
  /-- "the rest of the record is passed over": its Read has ended (R362) -/
  passing : Bool
  /-- a Read or a Write that waits for the unit to end its motion -/
  waiting : Option Dir
  /-- the frames of the word being assembled -/
  frames : List (BitVec 6)
  /-- the sum, track by track, of the frames of the record -/
  tracks : BitVec 7
  /-- the frames written: parity at bit 6 (R362) -/
  written : List (BitVec 7)
deriving DecidableEq, Repr

/-- A division of a 3682 satellite coupler (R365). -/
structure Coupler where
  connected : Bool
  flags : BitVec 8
  mask : BitVec 8
  abnormalSel : Bool
  activeSel : Bool
  sig : Bool
  otherRunning : Bool
  otherRead : Bool
  otherWrite : Bool
  otherParity : Bool
deriving DecidableEq, Repr

/-- A 3446 or 3644 card punch as one of its controls sees it (R366, R367). A column holds row 12 at bit 11, row 11 at
bit 10, and rows 0 to 9 at bits 9 to 0. -/
structure CardPunch where
  connected : Bool
  reserved : Bool
  otherReserved : Bool
  reserveReject : Bool
  ready : Bool
  /-- a punch cycle is in progress -/
  busy : Bool
  /-- this control's Write is in progress -/
  writing : Bool
  /-- the other control's Write is in progress -/
  otherWriting : Bool
  /-- the punch cycle in progress is for this control -/
  ownCycle : Bool
  failToFeed : Bool
  compareError : Bool
  negate : Bool
  checkLast : Bool
  irqs : Irqs
  /-- the columns loaded into the memory of 80 -/
  columns : List (BitVec 12)
  /-- the holes of the card in the cycle in progress -/
  loaded : Option Nat
  /-- the holes of the card before it, which that cycle reads back (R367) -/
  unchecked : Option Nat
  /-- the holes that the last cycle read back -/
  readBack : Option Nat
  /-- the cards punched -/
  cards : List (List (BitVec 12))
deriving DecidableEq, Repr

/-- A 3447 or 3649 card reader as one of its controls sees it (R368). -/
structure CardReader where
  connected : Bool
  reserved : Bool
  otherReserved : Bool
  reserveReject : Bool
  /-- the Auto/Man switch and the mechanism are in their normal condition -/
  ready : Bool
  busy : Bool
  /-- this control's Read is in progress -/
  reading : Bool
  /-- the End of File switch -/
  endOfFileSwitch : Bool
  stackerFull : Bool
  hopperEmpty : Bool
  failToFeed : Bool
  compareError : Bool
  negate : Bool
  gateCard : Bool
  /-- the card in the memory has punches 7 and 9 in column one -/
  binaryCard : Bool
  irqs : Irqs
  /-- the columns of the card that are still in the buffer memory -/
  memory : List (BitVec 12)
deriving DecidableEq, Repr

/-- An equipment the spec does not describe: it answers from a list, then not at all
(spec/46_input_output.md R301; log 29). -/
structure OtherDevice where
  connected : Bool
  answers : List Reply
  status : BitVec 12
  sig : Bool
deriving DecidableEq, Repr

/-- An equipment. -/
inductive Device where
  | typewriter (d : Typewriter)
  | printer (d : Printer)
  | paperTape (d : PaperTape)
  | magTape (d : MagTape)
  | coupler (d : Coupler)
  | cardPunch (d : CardPunch)
  | cardReader (d : CardReader)
  | other (d : OtherDevice)
deriving DecidableEq, Repr

/-- What an equipment gives the channel at one event of its mechanism. -/
inductive Supply where
  | none
  | word (w : BitVec 48)
  | endOfRecord
deriving DecidableEq, Repr

/-- A control of an equipment, the channel it is cabled to, and its Equipment Number switch (R340). Two controls of one
equipment that are both cabled to this machine have the same number in `shared` (R348, R358, R366). -/
structure Attached where
  channel : ChanId
  number : BitVec 3
  shared : Option Nat
  device : Device
deriving DecidableEq, Repr

end Sys2Proof.Machine
end

