-- ==== Sys2Proof/Machine/Tables.lean ====
section
/-! DEFINITION. The character codes of the equipments (spec/48_external_equipment.md R347, R353, R362, R367). A cell that
the source lost or damaged is left out. -/

namespace Sys2Proof.Machine

/-- Table 7-3, the letters of the 731 typewriter: code and letter, lower case (R347). -/
def typewriterLetters : List (Nat × String) :=
  [(0o12, "A"), (0o01, "B"), (0o11, "C"), (0o55, "D"), (0o51, "E"), (0o30, "F"), (0o74, "G"), (0o45, "H"),
   (0o16, "I"), (0o70, "J"), (0o15, "K"), (0o41, "L"), (0o72, "M")] ++
  [(0o31, "N"), (0o42, "O"), (0o54, "P"), (0o10, "Q"), (0o56, "R"), (0o46, "S"), (0o75, "T"), (0o35, "U"),
   (0o36, "V"), (0o02, "W"), (0o71, "X"), (0o40, "Y"), (0o73, "Z")]

/-- Table 7-3, digits and signs with both cells legible: code, lower case, upper case (R347). -/
def typewriterSigns : List (Nat × String × String) :=
  [(0o43, "0", ")"), (0o37, "2", "@"), (0o33, "3", "#"), (0o47, "4", "$"), (0o57, "5", "%"),
   (0o13, "6", "cent sign"), (0o53, "7", "&"), (0o17, "8", "*"), (0o07, "9", "(")] ++
  [(0o14, ",", ","), (0o44, "/", "?"), (0o34, "=", "+"), (0o04, "-", "_")]

/-- Table 7-3, signs with only the lower case cell legible (R347). -/
def typewriterLowerSigns : List (Nat × String) := [(0o77, "1"), (0o32, "."), (0o50, ";")]

/-- Table 7-3, signs with only the upper case cell legible (R347). -/
def typewriterUpperSigns : List (Nat × String) := [(0o76, "degree sign"), (0o52, "quotation mark")]

/-- Codes that type nothing (R345). -/
def typewriterSilent : List Nat := [0o00, 0o65, 0o67]

/-- The code is a letter's (R347). -/
def isLetter (code : BitVec 6) : Bool := typewriterLetters.any (fun r => r.1 == code.toNat)

/-- The symbol of a code in a case, where the source keeps it (R347). -/
def typewriterSymbol (code : BitVec 6) (upper : Bool) : Option String :=
  let one := fun (t : List (Nat × String)) => (t.find? (fun r => r.1 == code.toNat)).map (fun r => r.2)
  let both := typewriterSigns.find? (fun r => r.1 == code.toNat)
  if upper then (both.map (fun r => r.2.2)).or (one typewriterUpperSigns)
  else ((one typewriterLetters).or (both.map (fun r => r.2.1))).or (one typewriterLowerSigns)

/-- Table 8-2, the printer's external BCD codes that the source keeps (R353). -/
def printerCodes : List (Nat × String) :=
  [(0o01, "1"), (0o02, "2"), (0o03, "3"), (0o04, "4"), (0o05, "5"), (0o06, "6"), (0o07, "7"), (0o10, "8"),
   (0o11, "9"), (0o12, "0"), (0o20, "blank"), (0o21, "/"), (0o22, "S"), (0o23, "T"), (0o24, "U"), (0o25, "V")] ++
  [(0o26, "W"), (0o27, "X"), (0o30, "Y"), (0o31, "Z"), (0o33, ","), (0o34, "("), (0o40, "-"), (0o41, "J"),
   (0o42, "K"), (0o43, "L"), (0o44, "M"), (0o45, "N"), (0o46, "O"), (0o47, "P"), (0o50, "Q"), (0o51, "R")] ++
  [(0o53, "$"), (0o54, "*"), (0o60, "+"), (0o61, "A"), (0o62, "B"), (0o63, "C"), (0o64, "D"), (0o65, "E"),
   (0o66, "F"), (0o67, "G"), (0o70, "H"), (0o71, "I"), (0o74, ")")]

/-- The rows of a card column (R367): 12, 11, then 0 to 9. -/
def cardRow (zone digit : List Nat) : List Nat := zone ++ digit

/-- The digit rows of the lower four bits of an internal BCD code in a zone other than the first (R367). -/
def zoneDigits (n : Nat) : List Nat :=
  match n with
  | 0 => []
  | 1 => [1]
  | 2 => [2]
  | 3 => [3]
  | 4 => [4]
  | 5 => [5]
  | 6 => [6]
  | 7 => [7]
  | 8 => [8]
  | 9 => [9]
  | k => [8, k - 8]

/-- Tables 13-1 and 14-2: the rows that the card punch punches for an internal BCD code, and that the card reader reads
as it (R367). -/
def hollerith (code : BitVec 6) : List Nat :=
  let n := code.toNat % 16
  match code.toNat / 16 with
  | 0 => if n = 0 then [0] else zoneDigits n
  | 1 => if n = 0o12 then [12, 0] else cardRow [12] (zoneDigits n)
  | 2 => if n = 0o12 then [11, 0] else cardRow [11] (zoneDigits n)
  | _ =>
    if n = 0 then [] else cardRow [0] (zoneDigits n)

/-- The character of an internal BCD code in Tables 13-1 and 14-2, where the source keeps it (R367). -/
def bcdCharacters : List (Nat × String) :=
  [(0o00, "0"), (0o01, "1"), (0o02, "2"), (0o03, "3"), (0o04, "4"), (0o05, "5"), (0o06, "6"), (0o07, "7"),
   (0o10, "8"), (0o11, "9"), (0o13, "="), (0o14, "dash"), (0o20, "+"), (0o21, "A"), (0o22, "B"), (0o23, "C")] ++
  [(0o24, "D"), (0o25, "E"), (0o26, "F"), (0o27, "G"), (0o30, "H"), (0o31, "I"), (0o32, "+0"), (0o33, "."),
   (0o34, ")"), (0o40, "minus"), (0o41, "J"), (0o42, "K"), (0o43, "L"), (0o44, "M"), (0o45, "N"), (0o46, "O")] ++
  [(0o47, "P"), (0o50, "Q"), (0o51, "R"), (0o52, "-0"), (0o53, "$"), (0o54, "*"), (0o60, "space"), (0o61, "/"),
   (0o62, "S"), (0o63, "T"), (0o64, "U"), (0o65, "V"), (0o66, "W"), (0o67, "X"), (0o70, "Y"), (0o71, "Z")] ++
  [(0o73, ","), (0o74, "(")]

/-- The bit of a card row in a column: row 12 at bit 11, row 11 at bit 10, rows 0 to 9 at bits 9 to 0 (R366). -/
def rowBit (r : Nat) : BitVec 12 := if r = 12 then 0o4000 else if r = 11 then 0o2000 else 1#12 <<< (9 - r)

/-- The column that is punched for an internal BCD code (R367). -/
def punchColumn (code : BitVec 6) : BitVec 12 := (hollerith code).foldl (fun c r => c ||| rowBit r) 0

/-- The internal BCD code of a column (R368); a column that is no code's is open (log 31). -/
def columnCode (column : BitVec 12) : BitVec 6 :=
  match ((List.range 64).map (BitVec.ofNat 6)).find? (fun c => punchColumn c == column) with
  | some c => c
  | none => Config.unlistedColumn column

/-- A 6-bit code between internal and external BCD: "If the 5th bit is a '1', the 6th bit is complemented" (R362). -/
def bcdFlip (code : BitVec 6) : BitVec 6 := if code.getLsbD 4 then code ^^^ 0o40 else code

/-- What the tape control writes for a code in BCD mode: all zeros as 12 (R362). -/
def tapeBcd (code : BitVec 6) : BitVec 6 := if code = 0 then 0o12 else bcdFlip code

/-- What it reads for a frame in BCD mode: 12 as all zeros (R362). -/
def tapeUnbcd (frame : BitVec 6) : BitVec 6 := if frame = 0o12 then 0 else bcdFlip frame

/-- The two 6-bit halves of a 12-bit byte, the upper one first (R345, R351, R367). -/
def byteCodes (b : BitVec 12) : List (BitVec 6) := [b.extractLsb' 6 6, b.extractLsb' 0 6]

/-- The bytes of a word, the first one sent first (spec/46_input_output.md R318). -/
def wordBytes (w : Word) : List (BitVec 12) :=
  [w.extractLsb' 36 12, w.extractLsb' 24 12, w.extractLsb' 12 12, w.extractLsb' 0 12]

/-- The eight 6-bit codes of a word, the first one first. -/
def wordCodes (w : Word) : List (BitVec 6) := (wordBytes w).flatMap byteCodes

/-- The word of eight 6-bit codes, the first one highest. -/
def codesWord (cs : List (BitVec 6)) : Word := cs.foldl (fun w c => (w <<< 6) ||| c.setWidth 48) 0

/-- The word of four bytes, the first one highest. -/
def columnsWord (bs : List (BitVec 12)) : Word := bs.foldl (fun w b => (w <<< 12) ||| b.setWidth 48) 0

/-- The number of ones. -/
def ones {n : Nat} (v : BitVec n) : Nat := ((List.range n).filter (fun i => v.getLsbD i)).length

end Sys2Proof.Machine
end

