-- ==== Sys2Proof/Machine/Equipment.lean ====
section
/-! DEFINITION. What each equipment's control does with connect codes, function codes, clears and data
(spec/48_external_equipment.md R341 to R368). Its mechanism is the environment's (R369): a mechanical change arrives
as an event that says where the mechanism now stands, and everything the control makes of it (its interrupt signals,
its reserves, its clears and its data) is here (logs 29 to 31). -/

namespace Sys2Proof.Machine

/-- One status line. -/
def line (n : Nat) (on : Bool) : BitVec 12 := if on then 1#12 <<< n else 0

/-- An interrupt whose condition arises: the signal goes up if it is selected, and stays up
(spec/60_exceptions.md R392; log 29). -/
def Irq.raise (i : Irq) (arises : Bool) : Irq := { i with sig := i.sig || (i.sel && arises) }

/-- The signal of any of three interrupts. -/
def Irqs.sig (i : Irqs) : Bool := i.ready.sig || i.endOp.sig || i.abnormal.sig

/-- The codes 0020 to 0025: select or release an interrupt; either clears its signal (R355, R366, R368). -/
def Irqs.code (i : Irqs) (c : BitVec 12) : Option Irqs :=
  match c.toNat with
  | 0o0020 => some { i with ready := { sel := true, sig := false } }
  | 0o0021 => some { i with ready := .off }
  | 0o0022 => some { i with endOp := { sel := true, sig := false } }
  | 0o0023 => some { i with endOp := .off }
  | 0o0024 => some { i with abnormal := { sel := true, sig := false } }
  | 0o0025 => some { i with abnormal := .off }
  | _ => none

/-- No signal, the selections kept. -/
def Irqs.quiet (i : Irqs) : Irqs :=
  { ready := { i.ready with sig := false }, endOp := { i.endOp with sig := false },
    abnormal := { i.abnormal with sig := false } }

/-- The conditions of the three that arise. -/
def Irqs.raise (i : Irqs) (ready endOp abnormal : Bool) : Irqs :=
  { ready := i.ready.raise ready, endOp := i.endOp.raise endOp, abnormal := i.abnormal.raise abnormal }

/-- Whether another control of this machine holds the reserve of the equipment (of tape unit k), where there is such a
control. -/
abbrev Twin := Option (BitVec 6 → Bool)

/-- Whether the other control of a two-control equipment has the reserve: never while this one has it; on this
machine's other channel as that control says, else as the mechanism's event says (R348, R366). -/
def otherReserve (mine : Bool) (twin : Twin) (said : Bool) : Bool :=
  !mine && (match twin with | some h => h 0 | none => said)

/-! ### The console typewriter (R341 to R347) -/

/-- A condition that Interrupt on Abnormal Operation reports (R343). -/
def Typewriter.abnormal (d : Typewriter) : Bool := d.endOfLine || d.typeParity

/-- Status lines (R344). -/
def Typewriter.status (d : Typewriter) : BitVec 12 :=
  line 0 d.power ||| line 1 d.busy ||| line 2 d.upperCase ||| line 5 d.endOfLine ||| line 10 d.typeParity

/-- A connect code (R342). Without power there is no answer and no connection remains
(spec/46_input_output.md R303). -/
def Typewriter.connect (d : Typewriter) (mine : Bool) : Reply × Typewriter :=
  if mine then
    if d.power then (.reply, { d with connected := true }) else (.silent, { d with connected := false })
  else if d.codeParity then (.silent, d)
  else (.silent, { d with connected := false })

/-- A function code; each of bits 0 to 2 is an operation of its own. `free` settles a code that both sets and clears
the selection, which the source does not (R343; log 30). That bit 0 raises the signal at once where it selects and a
condition stands, and raises nothing where the selection was on before (XX01 sent again after XX04, with End of Line still
up), is THE MODEL'S CHOICE (log 30). -/
def Typewriter.function (d : Typewriter) (c : BitVec 12) (free : Bool) : Reply × Typewriter :=
  let sel :=
    if c.getLsbD 0 && c.getLsbD 1 then free
    else if c.getLsbD 0 then true
    else if c.getLsbD 1 then false
    else d.abnSel
  let d1 := if c.getLsbD 2 then { d with intSig := false, typeParity := false } else d
  let d2 := { d1 with abnSel := sel }
  if d.connected then (.reply, { d2 with intSig := d2.intSig || (sel && !d.abnSel && d2.abnormal) })
  else (.silent, d)

/-- An external master clear or CLCH (R341). -/
def Typewriter.clear (d : Typewriter) : Typewriter :=
  { d with connected := false, abnSel := false, intSig := false, typeParity := false, codeParity := false }

/-- The automatic shift to lower case (R345): Busy goes up where the case changes (R344). -/
def Typewriter.lower (d : Typewriter) : Typewriter := { d with upperCase := false, busy := d.busy || d.upperCase }

/-- Whether a code shifts the case or types nothing (R345). -/
def Typewriter.silentCode (code : BitVec 6) : Bool :=
  code == 0o64 || code == 0o66 || typewriterSilent.contains code.toNat

/-- What a code puts on the page in a case (R345, R347): a letter in upper case only spaces. -/
def typedMark (code : BitVec 6) (upper : Bool) : Typed :=
  match code.toNat with
  | 0o60 => .space
  | 0o61 => .backspace
  | 0o62 => .tab
  | 0o63 => .carriageReturn
  | _ =>
    if isLetter code && upper then .space
    else
      match typewriterSymbol code upper with
      | some x => .char x
      | none => .unstated code upper

/-- The mechanism takes one code, from the channel or from a key: 64 and 66 shift the case, a carriage return ends the
line's end (R344, R345). -/
def Typewriter.strike (d : Typewriter) (code : BitVec 6) : Typewriter :=
  let d1 := { d with busy := true }
  if Typewriter.silentCode code then
    { d1 with upperCase := if code = 0o64 then true else if code = 0o66 then false else d.upperCase }
  else
    { d1 with
      endOfLine := d.endOfLine && !(code == 0o63),
      page := d.page ++ [if d.disturbed then .unstated code d.upperCase else typedMark code d.upperCase],
      disturbed := false }

/-- A code of a Write: a carriage return that is received also drops Type Parity Error (R344). -/
def Typewriter.type (d : Typewriter) (code : BitVec 6) : Typewriter :=
  { d.strike code with typing := true, typeParity := d.typeParity && !(code == 0o63) }

/-- A word of a Write: eight codes, the upper one of each byte first (R345). -/
def Typewriter.receive (d : Typewriter) (w : Word) : Typewriter := (wordCodes w).foldl Typewriter.type d

/-- A key (R346). During a Write "the typewriter may miss a character or type something other than the normal output
character" (R345; log 30). -/
def Typewriter.key (d : Typewriter) (code : BitVec 6) (writing : Bool) : Typewriter :=
  if writing then { d with disturbed := true } else d.strike code

/-- A mechanical change; an abnormal condition that arises while selected raises the signal (R343). Type Parity Error
rises only while a code of a Write is being typed, and no event drops it (R344). A loss of power ends the connection
(log 30). -/
def Typewriter.mechanical (old new : Typewriter) : Typewriter :=
  if new.power then
    let failed := old.typing && new.typeParity && !old.typeParity
    { old with
      power := true, upperCase := new.upperCase, endOfLine := new.endOfLine, typeParity := old.typeParity || failed,
      busy := new.busy, typing := old.typing && new.busy,
      intSig := old.intSig || (old.abnSel && ((new.endOfLine && !old.endOfLine) || failed)) }
  else
    { old.clear with
      power := false, upperCase := new.upperCase, endOfLine := new.endOfLine, busy := false, typing := false,
      disturbed := false }

/-! ### The line printer (R348 to R352) -/

/-- "the printer is ready; i.e., selected by a control and not busy" (R350). -/
def Printer.ready (d : Printer) : Bool := d.online && !d.busy

/-- Status lines (R350): bit 0 where this control has selected the printer (log 31). -/
def Printer.status (d : Printer) : BitVec 12 :=
  line 0 (d.ready && d.reserved) ||| line 11 d.otherReserved

/-- A connect code (R348). The status lines are up wherever the number matches, also where "the connection is not made"
(R350). The code is printed N000: that bits 8..0 do not matter is THE MODEL'S CHOICE (log 29). -/
def Printer.connect (d : Printer) (mine : Bool) : Reply × Printer :=
  if mine then
    if d.ready then
      if d.otherReserved then (.reject, { d with connected := true, sensed := true })
      else (.reply, { d with connected := true, sensed := true, reserved := true })
    else (.silent, { d with connected := false, sensed := true })
  else (.silent, { d with connected := false, sensed := false })

/-- A paper advance by a function code (R349). -/
def Printer.feed (d : Printer) (a : Advance) : Printer :=
  { d with advance := a, busy := true, paper := d.paper ++ [.advanced a] }

/-- A function code of a ready, reserved printer (Table 8-1). Selecting the interrupt leaves a signal that is up
(R349). -/
def Printer.operate (d : Printer) (c : BitVec 12) : Reply × Printer :=
  match c.toNat with
  | 0o0030 => (.reply, { d with irq := { d.irq with sel := true } })
  | 0o0031 => (.reply, { d with irq := .off })
  | 0o0001 => (.reply, d.feed .oneLine)
  | 0o0002 => (.reply, d.feed .twoLines)
  | 0o0003 => (.reply, d.feed .channel7)
  | 0o0004 => (.reply, d.feed .channel8)
  | 0o0006 => (.reply, { d with suppress := true })
  | 0o0010 => (.reply, { d with formats := 0 })
  | 0o0011 => (.reply, { d with formats := d.formats ||| 1#6 })
  | 0o0012 => (.reply, { d with formats := d.formats ||| 2#6 })
  | 0o0013 => (.reply, { d with formats := d.formats ||| 4#6 })
  | 0o0014 => (.reply, { d with formats := d.formats ||| 8#6 })
  | 0o0015 => (.reply, { d with formats := d.formats ||| 16#6 })
  | 0o0016 => (.reply, { d with formats := d.formats ||| 32#6 })
  | _ => (.reject, d)

/-- A function code (R349): every code needs the reserve; Clear Reserve (bit 5) is then taken in any condition, the
others need a ready printer. -/
def Printer.function (d : Printer) (c : BitVec 12) : Reply × Printer :=
  if !d.connected then (.silent, d)
  else if !d.reserved then (.reject, d)
  else if c.getLsbD 5 then (.reply, { d with reserved := false })
  else if d.ready then d.operate c
  else (.reject, d)

/-- The function logic and the memory of the printer, cleared. -/
def Printer.idle (d : Printer) : Printer :=
  { d with formats := 0, suppress := false, advance := .none, memory := [], overrun := false }

/-- An external master clear or CLCH is "a MC on the control physically attached to the data channel" (R352;
spec/46_input_output.md R311): the functions and the memory of a printer that the other control has reserved stay. -/
def Printer.clear (d : Printer) : Printer :=
  { (if d.otherReserved then d else d.idle) with
    connected := false, sensed := false, reserved := false, parityError := false, irq := .off }

/-- The Power On MC: all function logic, and the reserve of each control (R352). -/
def Printer.powerOn (d : Printer) : Printer :=
  Printer.clear { d with otherReserved := false, printing := false }

/-- The printer takes data: it is connected, reserved and ready (R350, R351). -/
def Printer.takes (d : Printer) : Bool := d.connected && d.reserved && d.ready

/-- A word of a Write: eight codes to the printer memory of 120, in external BCD (R351; the conversion is that of R362,
log 31). -/
def Printer.receive (d : Printer) (w : Word) : Printer :=
  let codes := d.memory ++ (wordCodes w).map tapeBcd
  { d with memory := codes.take 120, overrun := d.overrun || decide (120 < codes.length) }

/-- "When the Write signal drops, the printer prints one line and advances paper according to the selected format"
(R351); "the remainder of the line will be left blank"; the suppression is self-clearing (R349). That it prints a line also where
it took no data (it was busy or off line in the Write, or the Write had no words) is THE MODEL'S CHOICE (log 31). -/
def Printer.endWrite (d : Printer) : Printer :=
  if d.connected && d.reserved then
    { d with
      busy := true, printing := true, suppress := false, memory := [], overrun := false,
      paper := d.paper ++ [if d.overrun then .garbled else .line (d.memory ++ List.replicate (120 - d.memory.length) 0o20)] ++
        (if d.suppress then [] else [.spaced d.formats]) }
  else d

/-- A mechanical change. A line that is printed, with the printer ready again, raises the selected interrupt; a
completed advance clears itself (R349). -/
def Printer.mechanical (twin : Twin) (old new : Printer) : Printer :=
  let done := old.printing && new.ready
  { old with
    otherReserved := otherReserve old.reserved twin new.otherReserved, online := new.online, busy := new.busy,
    printing := old.printing && !done, advance := if new.busy then old.advance else .none,
    irq := old.irq.raise done }

/-- What this control sees after the other control's record has become `p`. -/
def Printer.follow (p q : Printer) : Printer :=
  { q.mechanical (some (fun _ => p.reserved)) p with
    printing := p.printing, formats := p.formats, suppress := p.suppress, advance := p.advance, memory := p.memory,
    overrun := p.overrun, paper := p.paper }

/-! ### The paper tape station (R354 to R357) -/

/-- The connected device is ready (R355, R356). -/
def PaperTape.ready (d : PaperTape) : Bool :=
  match d.connected with
  | .none => false
  | .reader => d.readerReady
  | .punch => d.punchReady

/-- "A reader not ready condition exists", or a punch not ready condition: of the connected device (R355). -/
def PaperTape.notReady (d : PaperTape) : Bool := d.connected != .none && !d.ready

/-- The connected device is ready, and "neither a punch nor reader cycle is in process" (R355). -/
def PaperTape.readyNotBusy (d : PaperTape) : Bool := d.ready && !d.busy

/-- Status lines (R356). -/
def PaperTape.status (d : PaperTape) : BitVec 12 :=
  line 0 d.ready ||| line 1 d.busy ||| line 2 (d.connected == .punch && d.supplyLow) ||| line 3 d.readerLast |||
    line 7 d.irqs.ready.sig ||| line 8 d.irqs.endOp.sig ||| line 9 d.irqs.abnormal.sig

/-- The interrupts of the conditions that come to exist between two states of the station; `endOp` and `abnormal` say
what else ends an operation (R355). -/
def PaperTape.interrupts (old now : PaperTape) (endOp abnormal : Bool) : PaperTape :=
  { now with
    irqs := now.irqs.raise (now.readyNotBusy && !old.readyNotBusy) ((now.notReady && !old.notReady) || endOp)
      abnormal }

/-- A connect code: bits 2..0 choose the reader or the punch (R354). A code with the station's number and another value
there is no code of the station: THE MODEL'S CHOICE is no answer and no connection (log 31), and that bits 8..3, of which
R354 says nothing, do not matter (log 29). -/
def PaperTape.connect (d : PaperTape) (mine : Bool) (u : BitVec 9) : Reply × PaperTape :=
  if mine && u.extractLsb' 0 3 = 0#3 then (.reply, d.interrupts { d with connected := .reader } false false)
  else if mine && u.extractLsb' 0 3 = 1#3 then (.reply, d.interrupts { d with connected := .punch } false false)
  else (.silent, { d with connected := .none })

/-- The signals of the conditions that exist when their interrupt is selected: ready and not busy for 0020, not ready
for 0022 (R355). That a code sent while its signal is up, and its condition still stands, clears the signal and raises it
again at once, so that the line stays up, is THE MODEL'S CHOICE (log 29). -/
def PaperTape.selected (d : PaperTape) (c : BitVec 12) : PaperTape :=
  { d with irqs := d.irqs.raise (c == 0o0020 && d.readyNotBusy) (c == 0o0022 && d.notReady) false }

/-- A function code (Table 9-1, R355). -/
def PaperTape.function (d : PaperTape) (c : BitVec 12) : Reply × PaperTape :=
  if d.connected = .none then (.silent, d)
  else
    match c.toNat with
    | 0o0001 => (.reply, { d with assembly := true })
    | 0o0002 => (.reply, { d with assembly := false })
    | 0o0005 => (.reply, { d with assembly := true, irqs := .off })
    | _ =>
      match d.irqs.code c with
      | some i => (.reply, PaperTape.selected { d with irqs := i } c)
      | none => (.reject, d)

/-- An external master clear or CLCH. That it sets the Assembly mode, as function 0005 does, is THE MODEL'S CHOICE
(log 31). -/
def PaperTape.clear (d : PaperTape) : PaperTape :=
  { d with
    connected := .none, parityError := false, assembly := true, irqs := .off, active := false, begun := false,
    frames := [] }

/-- A Read or a Punch begins: the station is busy, and the reader or the punch is its last device (R356). -/
def PaperTape.start (d : PaperTape) (dir : Dir) : PaperTape :=
  match d.connected, dir with
  | .reader, .read =>
    { d with busy := true, punchCycle := false, readerLast := true, active := true, begun := false, frames := [] }
  | .punch, .write => { d with busy := true, punchCycle := true, readerLast := false, active := true }
  | _, _ => d

/-- Channel Busy drops: the reader's End of Operation (R355). -/
def PaperTape.endTransfer (d : PaperTape) : PaperTape :=
  if d.active then
    { d with active := false, frames := [], irqs := d.irqs.raise false (d.connected == .reader) false }
  else d

/-- A frame of tape under the reader, level i at bit i - 1 (R357). In assembly mode the first word begins at a 7th level
hole, every later one must, and a word is eight frames; in character mode a frame is a word. No tape moves in a reader
that is not ready (R354). -/
def PaperTape.frame (d : PaperTape) (f : BitVec 8) : Supply × PaperTape :=
  if d.connected == .reader && d.active && d.readerReady then
    if !d.assembly then (.word (f.setWidth 48), d)
    else
      let fs := d.frames ++ [f.extractLsb' 0 6]
      if d.frames.isEmpty && !f.getLsbD 6 then
        if d.begun then (.endOfRecord, d) else (.none, d)
      else if fs.length = 8 then (.word (codesWord fs), { d with frames := [], begun := true })
      else (.none, { d with frames := fs, begun := true })
  else (.none, d)

/-- The frames that a word punches (R357). -/
def PaperTape.punching (assembly : Bool) (w : Word) : List (BitVec 8) :=
  if assembly then
    match wordCodes w with
    | [] => []
    | c :: cs => (c.setWidth 8 ||| 0o100) :: cs.map (fun c => c.setWidth 8)
  else [w.extractLsb' 0 8]

/-- A word of a Write to the punch. -/
def PaperTape.receive (d : PaperTape) (w : Word) : PaperTape :=
  { d with punched := d.punched ++ PaperTape.punching d.assembly w }

/-- The punch takes data: it is connected and ready (R354). That a Write with the reader connected, and a Read with the punch
connected, move no word and wait is THE MODEL'S CHOICE (log 26). -/
def PaperTape.takes (d : PaperTape) : Bool := d.connected == .punch && d.punchReady

/-- A mechanical change and the conditions that arise with it (R355): the punch's end of operation and its supply are those
of a punch cycle, not of a reader cycle that still goes on when the punch is connected. That a cycle which no Punch began
(the Leader switch) raises none is THE MODEL'S CHOICE. The station stays busy while its operation is in progress. The
Master Clear switch drops the error signal (R354); that it does nothing else to the control is THE MODEL'S
CHOICE (log 31). -/
def PaperTape.mechanical (old new : PaperTape) : PaperTape :=
  let busy := new.busy || old.active
  let now : PaperTape :=
    { old with
      readerReady := new.readerReady, punchReady := new.punchReady, busy := busy, punchCycle := old.punchCycle && busy,
      supplyLow := new.supplyLow, motionFailure := new.motionFailure, clearSwitch := new.clearSwitch,
      parityError := old.parityError && !new.clearSwitch }
  let cycle := old.connected == .punch && old.punchCycle && !busy
  old.interrupts now cycle
    ((now.notReady && !old.notReady) || (old.connected == .reader && now.motionFailure && !old.motionFailure) ||
      (cycle && now.supplyLow))

/-! ### The magnetic tape control (R358 to R363) -/

/-- Change the unit of a number. -/
def onUnit (k : BitVec 6) (f : TapeUnit → TapeUnit) (us : List TapeUnit) : List TapeUnit :=
  us.map (fun t => if t.number = k then f t else t)

/-- Change the connected unit. -/
def MagTape.onConnected (d : MagTape) (f : TapeUnit → TapeUnit) : MagTape :=
  match d.unit with
  | none => d
  | some k => { d with units := onUnit k f d.units }

/-- The unit of a number. -/
def MagTape.find (d : MagTape) (k : BitVec 6) : Option TapeUnit := d.units.find? (fun t => t.number == k)

/-- The connected unit. -/
def MagTape.current (d : MagTape) : Option TapeUnit :=
  match d.unit with
  | none => none
  | some k => d.find k

/-- This control has the unit of a number reserved. -/
def MagTape.holds (d : MagTape) (k : BitVec 6) : Bool :=
  match d.find k with
  | none => false
  | some t => t.holder == .thisControl

/-- No unit connected, and nothing read or written any more. -/
def MagTape.leave (d : MagTape) : MagTape :=
  { d with unit := none, moving := false, passing := false, waiting := none, frames := [], tracks := 0 }

/-- Every reservation of this control released (R359). -/
def MagTape.releaseAll (d : MagTape) : MagTape :=
  { d.leave with
    units := d.units.map (fun t => if t.holder = .thisControl then { t with holder := .free } else t) }

/-- The lines of the connected unit (R361). -/
def TapeUnit.status (t : TapeUnit) : BitVec 12 :=
  line 0 t.ready ||| line 2 t.writeEnable ||| line 3 t.fileMark ||| line 4 t.loadPoint ||| line 5 t.endOfTape |||
    line 6 (t.density.getLsbD 0) ||| line 7 (t.density.getLsbD 1)

/-- Status lines (R361). Busy is "Not present if the unit is not ready, or lost data or an abnormal-end interrupt from
a previous operation is still up". That such a signal raised by the operation still in progress drops Busy at once, as one
from an operation before it does, is THE MODEL'S CHOICE, because the sentence can be read both ways (log 31). -/
def MagTape.status (d : MagTape) : BitVec 12 :=
  (match d.current with
    | none => 0
    | some t =>
      t.status |||
        line 1 (t.ready && (t.busy || d.controlBusy || d.active) && !d.lostData && !d.irqs.abnormal.sig)) |||
    line 8 d.lostData ||| line 9 d.longParity ||| line 10 d.vertParity ||| line 11 d.reserveReject

/-- A connect code: bits 5..0 choose the unit (R358). A code that names a unit the control does not have is THE MODEL'S
CHOICE no answer and no connection (log 31). -/
def MagTape.connect (d : MagTape) (mine : Bool) (u : BitVec 9) : Reply × MagTape :=
  let k : BitVec 6 := u.extractLsb' 0 6
  if !mine then (.silent, { d.leave with connected := false })
  else
    match d.find k with
    | none => (.silent, { d.leave with connected := false })
    | some t =>
      if t.holder = .otherControl then
        (.reject, { d.leave with connected := true, lostData := false, reserveReject := true })
      else
        (.reply,
          { (if d.unit = some k then d else d.leave) with
            connected := true, unit := some k, lostData := false, reserveReject := false,
            units := onUnit k (fun t => { t with holder := .thisControl }) d.units })

/-- A format code of a unit whose control is not busy (Table 10-1). -/
def MagTape.format (d : MagTape) (c : BitVec 12) : Option MagTape :=
  match c.toNat with
  | 0o0000 => some (d.onConnected (fun t => { t with holder := .free })).leave
  | 0o0001 => some { d with binary := true }
  | 0o0002 => some { d with binary := false }
  | 0o0003 => some (d.onConnected (fun t => { t with density := 1 }))
  | 0o0004 => some (d.onConnected (fun t => { t with density := 0 }))
  | 0o0005 => some { d.releaseAll with binary := true }
  | 0o0006 => some (d.onConnected (fun t => { t with density := 2 }))
  | 0o0040 => some { d with reverse := false }
  | 0o0041 => some { d with reverse := true }
  | _ => none

/-- The connected unit's tape begins to move by a function code. -/
def MagTape.go (d : MagTape) (c : BitVec 12) (f : TapeUnit → TapeUnit) : MagTape :=
  d.onConnected (fun t => f { t with motion := .code c, busy := true })

/-- An end of file mark: 17 octal in even parity, and its check character (R360, R362). -/
def fileMarkFrames : List (BitVec 7) := [0o17, 0o17]

/-- A tape motion code of a unit that is not busy (Table 10-1). A search or a backspace drops File Mark, and motion off
the load point drops Load Point (R361); a rewind at load point has no effect, and Rewind Unload locks the unit
(R360). R362 asks for Write Enable of a Write only: that Write End of File Mark and Skip Bad Spot are performed without it
is THE MODEL'S CHOICE, and so is what Backspace and a backward search do at load point, whose details the rule leaves to
the source: they are accepted, keep Load Point up and end as they do elsewhere (log 31). -/
def MagTape.move (d : MagTape) (t : TapeUnit) (c : BitVec 12) : Option MagTape :=
  match c.toNat with
  | 0o0010 => if t.loadPoint then some d else some (d.go c (fun t => t))
  | 0o0011 => some (d.go c (fun t => { t with loadPoint := false, unloaded := true }))
  | 0o0012 => some (d.go c (fun t => { t with fileMark := false }))
  | 0o0013 => some (d.go c (fun t => { t with fileMark := false, loadPoint := false }))
  | 0o0014 => some (d.go c (fun t => { t with fileMark := false }))
  | 0o0015 =>
    some { d.go c (fun t => { t with loadPoint := false }) with written := d.written ++ fileMarkFrames }
  | 0o0016 => some (d.go c (fun t => { t with loadPoint := false }))
  | _ => none

/-- A legal function code clears Lost Data (R361). -/
def MagTape.accept (d : MagTape) : Reply × MagTape := (.reply, { d with lostData := false })

/-- A function code (R360, R363): "Any new interrupt instruction clears the existing Interrupt signal". A motion code is
also rejected by a unit that is busy, not ready or unloaded (R360; spec/46_input_output.md R304). That a code of Table
10-1 which is rejected leaves Lost Data up is THE MODEL'S CHOICE (R361; log 31). -/
def MagTape.function (d : MagTape) (c : BitVec 12) : Reply × MagTape :=
  if !d.connected then (.silent, d)
  else
    match d.current with
    | none => (.reject, d)
    | some t =>
      match d.irqs.quiet.code c with
      | some i => ({ d with irqs := i }).accept
      | none =>
        if d.controlBusy || d.active then (.reject, d)
        else
          match d.format c with
          | some e => e.accept
          | none =>
            if t.busy || !t.ready || t.unloaded then (.reject, d)
            else
              match d.move t c with
              | some e => e.accept
              | none => (.reject, d)

/-- The logic of the control at a master clear (R359, R361). -/
def MagTape.idle (d : MagTape) : MagTape :=
  { d.leave with
    connected := false, binary := true, reverse := false, controlBusy := false, lostData := false,
    longParity := false, vertParity := false, reserveReject := false, parityError := false, irqs := .off,
    active := false }

/-- CLCH: this control's connection and reservations (R359). File Mark drops at a master clear (R361). -/
def MagTape.clear (d : MagTape) : MagTape :=
  { d.idle with
    units := d.units.map (fun t =>
      if t.holder = .otherControl then t else { t with holder := .free, fileMark := false }) }

/-- An external master clear, or power on: "all tape units connected and reserved by all controls" (R359). -/
def MagTape.masterClear (d : MagTape) : MagTape :=
  { d.idle with units := d.units.map (fun t => { t with holder := .free, fileMark := false }) }

/-- A Read or Write begins on a new record (R361). There is no motion while Lost Data or an abnormal interrupt is up
(R361, R363), on a unit that is unloaded (R360) or not ready, for a Write without Write Enable, or for a reverse Read
at load point (R362). -/
def MagTape.begins (d : MagTape) (dir : Dir) : MagTape :=
  match d.current with
  | none => d
  | some t =>
    let back := d.reverse && dir == .read
    let runs := t.ready && !d.lostData && !d.irqs.abnormal.sig && !t.unloaded && !(back && t.loadPoint) &&
      (dir == .read || t.writeEnable)
    let e := { d with active := true, moving := runs, passing := false, waiting := none, frames := [], tracks := 0 }
    if runs then
      { e.onConnected (fun t =>
          { t with
            fileMark := false, loadPoint := false, busy := true,
            motion := match dir with | .read => .read | .write => .write }) with
        controlBusy := true, longParity := false,
        vertParity := match dir with | .read => false | .write => d.vertParity }
    else e

/-- A Read or Write of the channel. On a unit that is still in motion it waits for the end of that motion: of a record,
whose rest "is passed over" (R362), and, THE MODEL'S CHOICE, of a function code's operation, which so keeps its End of
Operation (log 31). -/
def MagTape.start (d : MagTape) (dir : Dir) : MagTape :=
  match d.connected, d.current with
  | true, some t => if t.busy then { d with active := true, waiting := some dir } else d.begins dir
  | _, _ => d

/-- A Read or Write waits, and its unit is idle. -/
def MagTape.resumes (d : MagTape) : Bool :=
  match d.waiting, d.current with
  | some _, some t => !t.busy && !d.moving
  | _, _ => false

/-- A Read or Write that waits begins once the unit is idle. -/
def MagTape.resume (d : MagTape) : MagTape :=
  match d.waiting with
  | some dir => if d.resumes then d.begins dir else d
  | none => d

/-- The record under the head is the channel's: its Read or Write has not ended, and the unit is ready. That a Read or a
Write of a control connected with no unit (after 0000, 0005 or a rejected connect code) moves no word and waits is THE
MODEL'S CHOICE (log 26). -/
def MagTape.transfers (d : MagTape) : Bool :=
  d.moving && !d.passing && (match d.current with | some t => t.ready | none => false)

/-- The conditions of an abnormal end that are reported when an operation ends (R363). -/
def MagTape.abnormal (d : MagTape) (t : TapeUnit) : Bool :=
  t.endOfTape || t.fileMark || t.loadPoint || d.vertParity || d.longParity || d.lostData

/-- An operation of the connected unit ends at a check character (R363). -/
def MagTape.operationEnds (d : MagTape) : MagTape :=
  match d.current with
  | none => d
  | some t => { d with irqs := d.irqs.raise false true (d.abnormal t) }

/-- The parity bit of a frame: odd for binary, even for BCD (R362). -/
def frameParity (binary : Bool) (c : BitVec 6) : Bool := (ones c % 2 == 0) == binary

/-- The frame of a 6-bit code. -/
def tapeFrame (binary : Bool) (c : BitVec 6) : BitVec 7 :=
  let k := if binary then c else tapeBcd c
  BitVec.ofBool (frameParity binary k) ++ k

/-- A word of a Write: eight frames (R362). -/
def MagTape.receive (d : MagTape) (w : Word) : MagTape :=
  let fs := (wordCodes w).map (tapeFrame d.binary)
  { d with written := d.written ++ fs, tracks := fs.foldl (fun s f => s ^^^ f) d.tracks }

/-- A frame of a record under the read head: its parity is checked, and eight make a word; in reverse the word is the
one that was written (R362; log 31). A record that is passed over gives no word. -/
def MagTape.frame (d : MagTape) (f : BitVec 7) : Supply × MagTape :=
  match d.connected && d.moving, d.current with
  | true, some t =>
    if t.motion = .read ∧ t.ready = true then
      let k : BitVec 6 := f.extractLsb' 0 6
      let c := if d.binary then k else tapeUnbcd k
      let fs := if d.reverse then c :: d.frames else d.frames ++ [c]
      let e := { d with tracks := d.tracks ^^^ f, vertParity := d.vertParity || f.getLsbD 6 != frameParity d.binary k }
      if d.passing then (.none, e)
      else if fs.length = 8 then (.word (codesWord fs), { e with frames := [] })
      else (.none, { e with frames := fs })
    else (.none, d)
  | _, _ => (.none, d)

/-- The end of record check character under the read head: "the total number of '1' bits in each of the seven
longitudinal tracks even"; the record gap gives End of Record, but to a Read that has ended already (R362). Fewer than
eight frames left over at the end of a record are no word: that they are dropped is THE MODEL'S CHOICE
(spec/46_input_output.md R318; log 31). So is that a reverse Read too ends its record here, after the frames, though
backward the character passes the head before them: the event stands for the end of the record in either direction. -/
def MagTape.check (d : MagTape) (f : BitVec 7) : Supply × MagTape :=
  match d.connected && d.moving, d.current with
  | true, some t =>
    if t.motion = .read ∧ t.ready = true then
      (if d.passing then .none else .endOfRecord,
        MagTape.operationEnds
          { d with
            moving := false, passing := false, frames := [], tracks := 0,
            longParity := d.longParity || decide (d.tracks ≠ f) })
    else (.none, d)
  | _, _ => (.none, d)

/-- The channel's operation ends: a Write writes its check character; after a Read "the rest of the record is passed
over" (R362). That a Write of no words also writes its check character, all zeros, and that a Write which CLCH or an external master
clear cuts off writes its own before the clear, is THE MODEL'S CHOICE (log 31). -/
def MagTape.endTransfer (d : MagTape) (dir : Dir) : MagTape :=
  let e := { d with active := false, waiting := none }
  match dir with
  | .read => { e with passing := d.moving, frames := [] }
  | .write =>
    if d.moving && !d.passing then { e with moving := false, written := d.written ++ [d.tracks], tracks := 0 } else e

/-- The holder of a unit after a mechanical change: a reservation of a control of this machine stays; a control of
another machine may take a free unit or release its own (R358). -/
def heldBy (twin : Twin) (k : BitVec 6) (old said : Holder) : Holder :=
  match old with
  | .thisControl => .thisControl
  | _ =>
    if (match twin with | some h => h k | none => false) then .otherControl
    else if said = .otherControl then .otherControl
    else .free

/-- A motion in which a file mark can pass the head and raise File Mark: a search, and, as R363 names it among the
conditions at a check character, a Read (log 31). -/
def TapeMotion.meetsMarks : TapeMotion → Bool
  | .read => true
  | .code c => c == 0o0013 || c == 0o0014
  | _ => false

/-- A unit after a mechanical change that says `n`; `hold` is the unit that the channel's operation keeps busy. A change of
its number clears its connection and its reservation (R358). File Mark rises in a search or at the end of Write End of
File Mark, and no event drops it; Load Point and End of Tape change where tape moves, by an operation or, while the unit
is not ready, by hand; a reload ends the lock of Rewind Unload; the density is the function codes' (R360, R361). -/
def TapeUnit.after (twin : Twin) (hold : Option (BitVec 6)) (o n : TapeUnit) : TapeUnit :=
  let same := o.number == n.number
  let busy := n.busy || (same && hold == some n.number)
  let moves := o.busy || !o.ready || !n.ready
  { number := n.number, holder := heldBy twin n.number (if same then o.holder else .free) n.holder, ready := n.ready,
    busy := busy, writeEnable := n.writeEnable,
    fileMark := o.fileMark ||
      (o.busy && ((n.fileMark && o.motion.meetsMarks) || (!busy && o.motion == .code 0o0015))),
    loadPoint := if moves then n.loadPoint else o.loadPoint, endOfTape := if moves then n.endOfTape else o.endOfTape,
    unloaded := o.unloaded && n.unloaded, density := o.density,
    motion := if same && busy then o.motion else .none }

/-- The units after a mechanical change, in the order of the drives. -/
def joinUnits (twin : Twin) (hold : Option (BitVec 6)) : List TapeUnit → List TapeUnit → List TapeUnit
  | _, [] => []
  | [], n :: ns =>
    { n with holder := heldBy twin n.number .free n.holder, motion := .none, fileMark := false } ::
      joinUnits twin hold [] ns
  | o :: os, n :: ns => o.after twin hold n :: joinUnits twin hold os ns

/-- The connection that is left: its unit still has its number and this control's reservation. -/
def MagTape.keepUnit (d : MagTape) : MagTape :=
  match d.unit with
  | none => d
  | some k => if d.holds k then d else d.leave

/-- The end of a motion raises End of Operation: after a check character (a search reads those of the records it passes),
at load point in a rewind, after Skip Bad Spot (R363). That Rewind Unload, which passes the load point, raises none is THE
MODEL'S CHOICE (log 31). -/
def motionEnds (m : TapeMotion) (n : TapeUnit) : Bool :=
  match m with
  | .none => false
  | .read => false
  | .write => true
  | .code c =>
    match c.toNat with
    | 0o0010 => n.loadPoint
    | 0o0012 => true
    | 0o0013 => true
    | 0o0014 => true
    | 0o0015 => true
    | 0o0016 => true
    | _ => false

/-- The end of a motion at which a check character is read or written, where the abnormal conditions are reported
(R363). -/
def motionChecks (m : TapeMotion) : Bool :=
  match m with
  | .write => true
  | .code c => c == 0o0012 || c == 0o0013 || c == 0o0014 || c == 0o0015
  | _ => false

/-- A mechanical change and the conditions that arise with it (R363). A unit is busy until its record has passed. Lost
Data and the parity errors rise while a unit moves, and no event drops them (R361). That only the connected unit's
operations raise the interrupts, where R363 says "a tape unit", is THE MODEL'S CHOICE (log 31). -/
def MagTape.observe (twin : Twin) (old new : MagTape) : MagTape :=
  let hold := if old.moving then old.unit else none
  let works := match old.current with | some t => t.busy | none => false
  let now : MagTape :=
    MagTape.keepUnit
      { old with
        units := joinUnits twin hold old.units new.units,
        controlBusy := new.controlBusy || old.active || old.moving,
        lostData := old.lostData || (works && new.lostData), longParity := old.longParity || (works && new.longParity),
        vertParity := old.vertParity || (works && new.vertParity) }
  match old.current, now.current with
  | some o, some n =>
    let ended := o.busy && !n.busy
    let idle := fun (t : TapeUnit) => t.ready && !t.busy
    { now with
      irqs := old.irqs.raise (idle n && !idle o) (ended && motionEnds o.motion n)
        ((ended && motionChecks o.motion && now.abnormal n) || (o.ready && !n.ready)) }
  | _, _ => now

/-- A mechanical change, after which an operation that waits for it begins. -/
def MagTape.mechanical (twin : Twin) (old new : MagTape) : MagTape := (old.observe twin new).resume

/-- What this control sees after another control's record has become `p`. -/
def MagTape.follow (p q : MagTape) : MagTape :=
  let m := q.observe (some p.holds)
    { p with
      controlBusy := q.controlBusy, lostData := q.lostData, longParity := q.longParity, vertParity := q.vertParity }
  let seen := fun (t : TapeUnit) =>
    match t.holder with
    | .free => { t with holder := .free }
    | .thisControl => { t with holder := .otherControl }
    | .otherControl =>
      match m.find t.number with
      | some o => if o.holder = .thisControl then o else { t with holder := .otherControl }
      | none => { t with holder := .otherControl }
  MagTape.keepUnit { m with units := p.units.map seen }

/-! ### The satellite coupler (R365) -/

/-- A selected condition holds. -/
def Coupler.condition (d : Coupler) : Bool :=
  decide (d.flags &&& d.mask ≠ 0#8) || (d.abnormalSel && (d.otherParity || !d.otherRunning)) ||
    (d.activeSel && (d.otherRead || d.otherWrite))

/-- Status lines (R365). -/
def Coupler.status (d : Coupler) : BitVec 12 :=
  d.flags.setWidth 12 ||| line 8 d.otherRunning ||| line 9 d.otherRead ||| line 10 d.otherWrite |||
    line 11 d.otherParity

/-- A connect code: the rule's example is 3000, and that bits 8..0 do not matter is THE MODEL'S CHOICE (R365; log 29). -/
def Coupler.connect (d : Coupler) (mine : Bool) : Reply × Coupler :=
  if mine then (.reply, { d with connected := true }) else (.silent, { d with connected := false })

/-- The effect of a function code: F in bits 11..8, N in bits 7..0. -/
def Coupler.operate (d : Coupler) (c : BitVec 12) : Option Coupler :=
  let n : BitVec 8 := c.extractLsb' 0 8
  match (c.extractLsb' 8 4).toNat with
  | 1 => some { d with flags := d.flags ||| n }
  | 2 => some { d with flags := d.flags &&& ~~~n }
  | 4 => some { d with mask := d.mask ||| n }
  | 8 => some { d with mask := d.mask &&& ~~~n }
  | 0 =>
    match n.toNat with
    | 0o001 => some { d with abnormalSel := true }
    | 0o002 => some { d with abnormalSel := false }
    | 0o004 => some { d with activeSel := true }
    | 0o010 => some { d with activeSel := false }
    | _ => none
  | _ => none

/-- The codes that clear: flags, mask bits, and the two other selections. -/
def Coupler.clears (c : BitVec 12) : Bool :=
  c.getLsbD 9 || c.getLsbD 11 || decide (c = 0o0002) || decide (c = 0o0010)

/-- A function code (R365): the signal rises with a selected condition and "remains up until a code clears the
interrupt". -/
def Coupler.function (d : Coupler) (c : BitVec 12) : Reply × Coupler :=
  if !d.connected then (.silent, d)
  else
    match d.operate c with
    | some e => (.reply, { e with sig := e.condition || (d.sig && !Coupler.clears c) })
    | none => (.reject, d)

/-- An external master clear "clears all selected interrupt conditions in that division". -/
def Coupler.clear (d : Coupler) : Coupler :=
  { d with connected := false, mask := 0, abnormalSel := false, activeSel := false, sig := false }

/-- "Power On MC: This clears all the flags". -/
def Coupler.powerOn (d : Coupler) : Coupler := { d.clear with flags := 0 }

/-- What the other division does. -/
def Coupler.mechanical (old new : Coupler) : Coupler :=
  let d : Coupler :=
    { old with
      flags := new.flags, otherRunning := new.otherRunning, otherRead := new.otherRead,
      otherWrite := new.otherWrite, otherParity := new.otherParity }
  { d with sig := d.sig || d.condition }

/-! ### The card punch (R366, R367) -/

/-- "The controller is busy when the data channel is busy with a Write operation or the punch is busy" (R366). -/
def CardPunch.isBusy (d : CardPunch) : Bool := d.writing || d.otherWriting || d.busy

/-- Status lines (R366): line 11 is "The punch is reserved by the other channel". -/
def CardPunch.status (d : CardPunch) : BitVec 12 :=
  line 0 d.ready ||| line 1 d.isBusy ||| line 6 d.failToFeed ||| line 7 d.irqs.ready.sig |||
    line 8 d.irqs.endOp.sig ||| line 9 d.irqs.abnormal.sig ||| line 10 d.compareError ||| line 11 d.otherReserved

/-- A connect code. That it is no "code issued to the controller" that drops Compare Error, as a function code is, is THE
MODEL'S CHOICE (log 31). So is that bits 8..0 do not matter, where R366 prints N000 (log 29). -/
def CardPunch.connect (d : CardPunch) (mine : Bool) : Reply × CardPunch :=
  if !mine then (.silent, { d with connected := false })
  else if d.otherReserved then (.reject, { d with connected := true, reserveReject := true })
  else (.reply, { d with connected := true, reserved := true, reserveReject := false })

/-- The effect of a function code (Table 13-2). That Release (0000) leaves the control connected is THE MODEL'S CHOICE
(log 31). Check Last Card is rejected by a punch that is busy or not ready (spec/46_input_output.md R304). -/
def CardPunch.operate (d : CardPunch) (c : BitVec 12) : Reply × CardPunch :=
  match c.toNat with
  | 0o0000 => (.reply, { d with reserved := false })
  | 0o0001 => (.reply, { d with negate := true })
  | 0o0002 => (.reply, { d with negate := false })
  | 0o0004 =>
    if d.isBusy || !d.ready then (.reject, d)
    else (.reply, { d with checkLast := true, busy := true, loaded := none, ownCycle := true })
  | 0o0005 => (.reply, { d with irqs := .off, negate := false })
  | _ =>
    match d.irqs.code c with
    | some i => (.reply, { d with irqs := i })
    | none => (.reject, d)

/-- A function code: Compare Error "remains up until another code is issued to the controller". A control that gave up
its reserve is rejected once the other has reserved the punch, THE MODEL'S CHOICE (log 31). -/
def CardPunch.function (d : CardPunch) (c : BitVec 12) : Reply × CardPunch :=
  if !d.connected then (.silent, d)
  else if d.reserveReject || d.otherReserved then (.reject, d)
  else ({ d with compareError := false }).operate c

/-- The card that is being loaded, dropped: only where a clear comes with no end of the Write before it (power on). -/
def CardPunch.idle (d : CardPunch) : CardPunch := { d with checkLast := false, columns := [] }

/-- "An external master clear or Clear Channel code will also release any reservation": this control's. That the
reservation of the other control stays, and with it the card that it loads, and that Compare Error stays up until a
function code, is THE MODEL'S CHOICE (log 31). -/
def CardPunch.clear (d : CardPunch) : CardPunch :=
  { (if d.otherReserved || d.otherWriting then d else d.idle) with
    connected := false, reserved := false, reserveReject := false, writing := false, negate := false, irqs := .off }

/-- A Write begins, unless the other control has the punch (log 31). -/
def CardPunch.start (d : CardPunch) (dir : Dir) : CardPunch :=
  match dir with
  | .read => d
  | .write =>
    if d.connected && !d.reserveReject && !d.otherReserved && !d.otherWriting then { d with writing := true } else d

/-- The columns of a word: two internal BCD characters a byte, or the bytes themselves (R366, R367). -/
def CardPunch.wordColumns (negate : Bool) (w : Word) : List (BitVec 12) :=
  if negate then wordBytes w else (wordCodes w).map punchColumn

/-- The loaded card goes through the punch; its other columns are blank (R367). -/
def CardPunch.punchCard (d : CardPunch) : CardPunch :=
  { d with
    busy := true, ownCycle := true, loaded := some ((d.columns.map ones).sum), columns := [],
    cards := d.cards ++ [d.columns ++ List.replicate (80 - d.columns.length) 0] }

/-- A word of a Write: at 80 columns "the controller stops the transmission of bytes and punches one card" (R367). -/
def CardPunch.receive (d : CardPunch) (w : Word) : CardPunch :=
  let e := { d with columns := d.columns ++ CardPunch.wordColumns d.negate w }
  if 80 ≤ e.columns.length then e.punchCard else e

/-- The channel is no longer busy: "If fewer bytes are specified one card is punched" (R367). End of Operation waits for
the punching (R366). That the card is punched too where CLCH or an external master clear ends the Write, and that a Write
of no words punches none, is THE MODEL'S CHOICE (log 31). -/
def CardPunch.endWrite (d : CardPunch) : CardPunch :=
  if d.writing then
    let e := { d with writing := false }
    if !e.columns.isEmpty then e.punchCard
    else { e with irqs := e.irqs.raise (e.ready && !e.busy) (!e.busy) false }
  else d

/-- The hole count of the card before is compared with what the cycle read back (R367). -/
def CardPunch.miscount (d : CardPunch) (read : Option Nat) : Bool :=
  match d.unchecked, read with
  | some k, some j => decide (j ≠ k)
  | _, _ => false

/-- A mechanical change and the conditions that arise with it (R366), with what is known of the other control. -/
def CardPunch.observe (otherReserved otherWriting : Bool) (old new : CardPunch) : CardPunch :=
  let cycle := old.busy && !new.busy
  let now : CardPunch :=
    { old with
      otherReserved := otherReserved, otherWriting := otherWriting, ready := new.ready, busy := new.busy,
      failToFeed := new.failToFeed, readBack := new.readBack,
      compareError := old.compareError || (cycle && old.miscount new.readBack),
      checkLast := old.checkLast && !cycle, unchecked := if cycle then old.loaded else old.unchecked,
      loaded := if cycle then none else old.loaded, ownCycle := old.ownCycle && !cycle }
  let fell := old.ready && !now.ready
  let compared := now.compareError && !old.compareError
  { now with
    irqs := old.irqs.raise (now.ready && !now.isBusy && !(old.ready && !old.isBusy))
      ((cycle && old.ownCycle && !now.writing) || fell || compared)
      (compared || (now.failToFeed && !old.failToFeed) || fell) }

/-- A mechanical change. Only a control of another machine is the event's. -/
def CardPunch.mechanical (twin : Twin) (old new : CardPunch) : CardPunch :=
  let reserved := otherReserve old.reserved twin new.otherReserved
  old.observe reserved (if twin.isSome then old.otherWriting else new.otherWriting && reserved) new

/-- What this control sees after the other control's record has become `p`: one punch, one memory, but each control's own
Write (R366). -/
def CardPunch.follow (p q : CardPunch) : CardPunch :=
  { q.observe (otherReserve q.reserved (some (fun _ => p.reserved)) false) p.writing p with
    checkLast := p.checkLast, columns := p.columns, loaded := p.loaded, unchecked := p.unchecked, cards := p.cards,
    compareError := p.compareError }

/-! ### The card reader (R368) -/

/-- Reader Ready: "the memory has been loaded with the information from the first card and the information from that
card is ready to be unloaded". -/
def CardReader.isReady (d : CardReader) : Bool := d.ready && !d.memory.isEmpty

/-- End of File: "the End of File switch is ON, the input tray is empty and memory is unloaded". -/
def CardReader.endOfFile (d : CardReader) : Bool := d.endOfFileSwitch && d.hopperEmpty && d.memory.isEmpty

/-- Status lines (R368): line 2 is "Binary Card in Reader Memory". Of line 1, Reader Busy, R368 gives only the name: that it
is the card cycle of the mechanism, which a Read in progress does not raise, is THE MODEL'S CHOICE (log 31). -/
def CardReader.status (d : CardReader) : BitVec 12 :=
  line 0 d.isReady ||| line 1 d.busy ||| line 2 (d.binaryCard && !d.memory.isEmpty) ||| line 3 d.endOfFile ||| line 4 d.stackerFull |||
    line 5 d.hopperEmpty ||| line 6 d.failToFeed ||| line 7 d.irqs.ready.sig ||| line 8 d.irqs.endOp.sig |||
    line 9 d.irqs.abnormal.sig ||| line 10 d.compareError ||| line 11 d.reserveReject

/-- The conditions of the mechanism and the connection that are normal (R368): Auto/Man switch in AUTO, card in input
tray, stackers not full, no feed failure, no pre-read or compare error, reader connected. -/
def CardReader.conditions (d : CardReader) : List Bool :=
  [d.ready, !d.hopperEmpty, !d.stackerFull, !d.failToFeed, !d.compareError, d.connected]

/-- "The normal condition of the reader": these, and buffer memory loaded. -/
def CardReader.normal (d : CardReader) : Bool := d.conditions.all id && !d.memory.isEmpty

/-- "A failure occurs in a normal condition": one of them no longer holds. Reading unloads the memory, so that this
condition fails only where a card cycle ends with no card loaded is THE MODEL'S CHOICE (log 31). -/
def CardReader.fails (old now : CardReader) : Bool :=
  (old.conditions.zip now.conditions).any (fun c => c.1 && !c.2) || (old.busy && !now.busy && now.memory.isEmpty)

/-- A connect code. One for another equipment ends a connection, a normal condition. The code is printed N000:
that bits 8..0 do not matter is THE MODEL'S CHOICE (R368; log 29). -/
def CardReader.connect (d : CardReader) (mine : Bool) : Reply × CardReader :=
  if !mine then
    let now := { d with connected := false }
    (.silent, { now with irqs := d.irqs.raise false false (d.fails now) })
  else if d.otherReserved then (.reject, { d with connected := true, reserveReject := true })
  else (.reply, { d with connected := true, reserved := true, reserveReject := false })

/-- The effect of a function code (Table 14-1). That Release (0000) leaves the control connected is THE MODEL'S CHOICE
(log 31). -/
def CardReader.operate (d : CardReader) (c : BitVec 12) : Reply × CardReader :=
  match c.toNat with
  | 0o0000 => (.reply, { d with reserved := false })
  | 0o0001 => (.reply, { d with negate := true })
  | 0o0002 => (.reply, { d with negate := false })
  | 0o0004 => (.reply, { d with gateCard := true })
  | 0o0005 => (.reply, { d with irqs := .off, negate := false })
  | _ =>
    match d.irqs.code c with
    | some i => (.reply, { d with irqs := i })
    | none => (.reject, d)

/-- A function code. A control that gave up its reserve is rejected once the other has reserved the reader, THE MODEL'S
CHOICE (log 31). -/
def CardReader.function (d : CardReader) (c : BitVec 12) : Reply × CardReader :=
  if !d.connected then (.silent, d)
  else if d.reserveReject || d.otherReserved then (.reject, d)
  else d.operate c

/-- An external master clear or CLCH of this control. That the reservation of the other control stays, and the card that
it gates, is THE MODEL'S CHOICE (log 31). -/
def CardReader.clear (d : CardReader) : CardReader :=
  { d with
    connected := false, reserved := false, reserveReject := false, reading := false, negate := false,
    gateCard := d.gateCard && d.otherReserved, irqs := .off }

/-- A Read begins, unless the other control has the reader. That it does not raise Reader Busy is THE MODEL'S CHOICE
(log 31). -/
def CardReader.start (d : CardReader) (dir : Dir) : CardReader :=
  match dir with
  | .read => if d.connected && !d.reserveReject && !d.otherReserved then { d with reading := true } else d
  | .write => d

/-- The controller sends a word of the card in its memory: "two Hollerith characters are sent to the computer per byte",
or a byte is a column of a binary card or with the conversion negated; so 40 or 80 bytes a card. That a reader which is not
ready (its Auto/Man switch) still unloads a card that is in its memory is THE MODEL'S CHOICE (log 31). -/
def CardReader.unload (d : CardReader) : Supply × CardReader :=
  let translate := !d.negate && !d.binaryCard
  let n := if translate then 8 else 4
  let cs := d.memory.take n
  if d.connected && d.reading && !d.memory.isEmpty then
    (.word (if translate then codesWord (cs.map columnCode) else columnsWord cs), { d with memory := d.memory.drop n })
  else (.none, d)

/-- "Interrupt occurs when Read, Data, and Channel Busy signals drop. If a portion of a card is read from memory ... The
remainder of the card is discarded." -/
def CardReader.endTransfer (d : CardReader) : CardReader :=
  if d.reading then
    { d with
      reading := false, memory := if d.memory.length < 80 then [] else d.memory,
      irqs := d.irqs.raise false true false }
  else d

/-- A mechanical change and the conditions that arise with it. A card of 80 columns is loaded into an empty memory, and
punches 7 and 9 in column one make it a binary card. -/
def CardReader.mechanical (twin : Twin) (old new : CardReader) : CardReader :=
  let loads := old.memory.isEmpty && decide (new.memory.length = 80)
  let now : CardReader :=
    { old with
      otherReserved := otherReserve old.reserved twin new.otherReserved, ready := new.ready, busy := new.busy,
      endOfFileSwitch := new.endOfFileSwitch, stackerFull := new.stackerFull, hopperEmpty := new.hopperEmpty,
      failToFeed := new.failToFeed, compareError := new.compareError,
      memory := if loads then new.memory else old.memory,
      gateCard := old.gateCard && !loads,
      binaryCard :=
        if loads then
          (match new.memory with
            | [] => false
            | c :: _ => decide (c &&& (rowBit 7 ||| rowBit 9) = (rowBit 7 ||| rowBit 9)))
        else old.binaryCard }
  { now with
    irqs := old.irqs.raise (now.isReady && !now.busy && !(old.isReady && !old.busy)) false (old.fails now) }

/-- What this control sees after the other control's record has become `p`: one reader, one memory, but each control's own
Read (R368). -/
def CardReader.follow (p q : CardReader) : CardReader :=
  { q.mechanical (some (fun _ => p.reserved)) p with
    gateCard := p.gateCard, binaryCard := p.binaryCard, memory := p.memory }

/-! ### Any other equipment (spec/46_input_output.md R301) -/

/-- The next answer of the list; none when the list is empty. -/
def OtherDevice.answer (d : OtherDevice) : Reply × OtherDevice :=
  match d.answers with
  | [] => (.silent, d)
  | r :: rest => (r, { d with answers := rest })

/-- A connect code. -/
def OtherDevice.connect (d : OtherDevice) (mine : Bool) : Reply × OtherDevice :=
  if mine then
    match d.answer with
    | (.reply, e) => (.reply, { e with connected := true })
    | (r, e) => (r, { e with connected := false })
  else (.silent, { d with connected := false })

/-- A function code. -/
def OtherDevice.function (d : OtherDevice) : Reply × OtherDevice :=
  if d.connected then d.answer else (.silent, d)

/-- An external master clear or CLCH. -/
def OtherDevice.clear (d : OtherDevice) : OtherDevice := { d with connected := false, sig := false }

/-- A change of its answers, status and signal; only CONN and the clears touch its connection
(spec/46_input_output.md R303). -/
def OtherDevice.mechanical (old new : OtherDevice) : OtherDevice := { new with connected := old.connected }

/-! ### Any equipment -/

/-- The equipment's status lines go to the channel (R350, R359, R366; spec/46_input_output.md R308). -/
def Device.connected : Device → Bool
  | .typewriter d => d.connected
  | .printer d => d.sensed
  | .paperTape d => decide (d.connected ≠ .none)
  | .magTape d => d.connected
  | .coupler d => d.connected
  | .cardPunch d => d.connected
  | .cardReader d => d.connected
  | .other d => d.connected

/-- A typewriter that is connected (R346). -/
def Device.typewriterConnected : Device → Bool
  | .typewriter d => d.connected
  | _ => false

/-- Status lines. -/
def Device.status : Device → BitVec 12
  | .typewriter d => d.status
  | .printer d => d.status
  | .paperTape d => d.status
  | .magTape d => d.status
  | .coupler d => d.status
  | .cardPunch d => d.status
  | .cardReader d => d.status
  | .other d => d.status

/-- The equipment's interrupt line. -/
def Device.signal : Device → Bool
  | .typewriter d => d.intSig
  | .printer d => d.irq.sig
  | .paperTape d => d.irqs.sig
  | .magTape d => d.irqs.sig
  | .coupler d => d.sig
  | .cardPunch d => d.irqs.sig
  | .cardReader d => d.irqs.sig
  | .other d => d.sig

/-- `eq_connect` (spec/46_input_output.md R301); `mine` says that the code's equipment number is this one's. -/
def Device.connect (mine : Bool) (u : BitVec 9) : Device → Reply × Device
  | .typewriter d => ((d.connect mine).1, .typewriter (d.connect mine).2)
  | .printer d => ((d.connect mine).1, .printer (d.connect mine).2)
  | .paperTape d => ((d.connect mine u).1, .paperTape (d.connect mine u).2)
  | .magTape d => ((d.connect mine u).1, .magTape (d.connect mine u).2)
  | .coupler d => ((d.connect mine).1, .coupler (d.connect mine).2)
  | .cardPunch d => ((d.connect mine).1, .cardPunch (d.connect mine).2)
  | .cardReader d => ((d.connect mine).1, .cardReader (d.connect mine).2)
  | .other d => ((d.connect mine).1, .other (d.connect mine).2)

/-- `eq_function` (spec/46_input_output.md R301). -/
def Device.function (c : BitVec 12) (free : Bool) : Device → Reply × Device
  | .typewriter d => ((d.function c free).1, .typewriter (d.function c free).2)
  | .printer d => ((d.function c).1, .printer (d.function c).2)
  | .paperTape d => ((d.function c).1, .paperTape (d.function c).2)
  | .magTape d => ((d.function c).1, .magTape (d.function c).2)
  | .coupler d => ((d.function c).1, .coupler (d.function c).2)
  | .cardPunch d => ((d.function c).1, .cardPunch (d.function c).2)
  | .cardReader d => ((d.function c).1, .cardReader (d.function c).2)
  | .other d => ((d.function).1, .other (d.function).2)

/-- The clear of CLCH (spec/46_input_output.md R311). -/
def Device.clear : Device → Device
  | .typewriter d => .typewriter d.clear
  | .printer d => .printer d.clear
  | .paperTape d => .paperTape d.clear
  | .magTape d => .magTape d.clear
  | .coupler d => .coupler d.clear
  | .cardPunch d => .cardPunch d.clear
  | .cardReader d => .cardReader d.clear
  | .other d => .other d.clear

/-- The external master clear (spec/70_reset_and_hazards.md R421): as CLCH, and all the reservations of a tape control
(R359). -/
def Device.masterClear : Device → Device
  | .magTape d => .magTape d.masterClear
  | d => d.clear

/-- The Power On MC: as the external master clear, and what R352 and R365 add. -/
def Device.powerOn : Device → Device
  | .printer d => .printer d.powerOn
  | .coupler d => .coupler d.powerOn
  | d => d.masterClear

/-- A Read or Write begins: "The typewriter is automatically placed in lower case at the beginning and end of every
Write" (R345). -/
def Device.start (dir : Dir) : Device → Device
  | .typewriter d =>
    match dir with
    | .read => .typewriter d
    | .write => .typewriter (if d.connected then d.lower else d)
  | .printer d => .printer d
  | .paperTape d => .paperTape (d.start dir)
  | .magTape d => .magTape (d.start dir)
  | .coupler d => .coupler d
  | .cardPunch d => .cardPunch (d.start dir)
  | .cardReader d => .cardReader (d.start dir)
  | .other d => .other d

/-- The channel's operation ends (R345, R351, R355, R362, R366, R368). -/
def Device.endTransfer (dir : Dir) : Device → Device
  | .typewriter d =>
    match dir with
    | .read => .typewriter d
    | .write => .typewriter (if d.connected then { d.lower with disturbed := false } else d)
  | .printer d =>
    match dir with
    | .read => .printer d
    | .write => .printer d.endWrite
  | .paperTape d => .paperTape d.endTransfer
  | .magTape d => .magTape (d.endTransfer dir)
  | .coupler d => .coupler d
  | .cardPunch d => .cardPunch d.endWrite
  | .cardReader d => .cardReader d.endTransfer
  | .other d => .other d

/-- A connected equipment that takes no data of a Write now: the channel waits (R348, R351, R354, R362, R365, R367). That a
card reader, which has nothing to write on, makes a Write wait is THE MODEL'S CHOICE (log 26), and so is that a card punch
which is not ready takes the words and punches its card all the same, because R367 speaks of no such test (log 31). -/
def Device.blocks : Device → Bool
  | .typewriter _ => false
  | .printer d => !d.takes
  | .paperTape d => !d.takes
  | .magTape d => !d.transfers
  | .coupler d => !d.otherRead
  | .cardPunch d => !d.writing || d.busy
  | .cardReader _ => true
  | .other _ => false

/-- A word of a Write. -/
def Device.receive (w : Word) (d : Device) : Device :=
  if d.connected then
    match d with
    | .typewriter d => .typewriter (d.receive w)
    | .printer d => .printer (d.receive w)
    | .paperTape d => .paperTape (d.receive w)
    | .magTape d => .magTape (d.receive w)
    | .coupler d => .coupler d
    | .cardPunch d => .cardPunch (d.receive w)
    | .cardReader d => .cardReader d
    | .other d => .other d
  else d

/-- The words of an equipment are whatever arrives: an equipment the spec does not describe, and a coupler while the
other division writes (R365). The words of the others come from their frames, cards and keys; that a Read with a printer
or a card punch connected, which give none, moves no word and waits is THE MODEL'S CHOICE (log 26). -/
def Device.freeInput : Device → Bool
  | .coupler d => d.otherWrite
  | .other _ => true
  | _ => false

/-- An equipment that may signal End of Record by itself: one that the spec does not describe, and a card reader whose
card is used up (spec/46_input_output.md R317). A coupler does so only when the other division drops its Write
(`Device.writeDrops`, R365). -/
def Device.ends : Device → Bool
  | .cardReader d => d.memory.isEmpty
  | .other _ => true
  | _ => false

/-- A frame passes the connected mechanism (R357, R362). -/
def Device.frame (f : BitVec 8) : Device → Supply × Device
  | .paperTape d => ((d.frame f).1, .paperTape (d.frame f).2)
  | .magTape d => ((d.frame (f.setWidth 7)).1, .magTape (d.frame (f.setWidth 7)).2)
  | d => (.none, d)

/-- The end of record check character passes the read head (R362). -/
def Device.check (f : BitVec 7) : Device → Supply × Device
  | .magTape d => ((d.check f).1, .magTape (d.check f).2)
  | d => (.none, d)

/-- The control sends a word of its buffer memory (R368). -/
def Device.unload : Device → Supply × Device
  | .cardReader d => (d.unload.1, .cardReader d.unload.2)
  | d => (.none, d)

/-- A key (R346). -/
def Device.key (code : BitVec 6) (writing : Bool) : Device → Device
  | .typewriter d => .typewriter (if d.connected then d.key code writing else d)
  | d => d

/-- A transmission parity error: the indicators and error flip-flops of R342, R348, R352, R354 and R360. A connect code is
seen by every equipment of the channel, and a typewriter and a printer note its error; a function code or data byte is
its receiver's, and the tape control's where a unit is connected. -/
def Device.parityError (k : Transmitted) : Device → Device
  | .typewriter d => .typewriter { d with codeParity := d.codeParity || d.connected || k == .connect }
  | .printer d => .printer { d with parityError := d.parityError || d.connected || k == .connect }
  | .paperTape d => .paperTape { d with parityError := d.parityError || (d.connected != .none && k != .connect) }
  | .magTape d => .magTape { d with parityError := d.parityError || (d.connected && d.unit.isSome && k != .connect) }
  | d => d

/-- A mechanical change of an equipment. A device of another kind is a new equipment put in its place, with its power
just on. -/
def Device.mechanical (twin : Twin) (old new : Device) : Device :=
  match old, new with
  | .typewriter d, .typewriter e => .typewriter (d.mechanical e)
  | .printer d, .printer e => .printer (d.mechanical twin e)
  | .paperTape d, .paperTape e => .paperTape (d.mechanical e)
  | .magTape d, .magTape e => .magTape (d.mechanical twin e)
  | .coupler d, .coupler e => .coupler (d.mechanical e)
  | .cardPunch d, .cardPunch e => .cardPunch (d.mechanical twin e)
  | .cardReader d, .cardReader e => .cardReader (d.mechanical twin e)
  | .other d, .other e => .other (d.mechanical e)
  | _, e => e.powerOn

/-- An operation of the control waits for a unit that is idle now (R362). -/
def Device.resumes : Device → Bool
  | .magTape d => d.resumes
  | _ => false

/-- That operation begins. -/
def Device.resume : Device → Device
  | .magTape d => .magTape d.resume
  | d => d

/-- What a control sees after another control of the same equipment has become `p`. -/
def Device.follow (p q : Device) : Device :=
  match p, q with
  | .printer p, .printer q => .printer (p.follow q)
  | .magTape p, .magTape q => .magTape (p.follow q)
  | .cardPunch p, .cardPunch q => .cardPunch (p.follow q)
  | .cardReader p, .cardReader q => .cardReader (p.follow q)
  | _, q => q

/-- A control has the reserve of its equipment, or of tape unit k. -/
def Device.holds (k : BitVec 6) : Device → Bool
  | .printer d => d.reserved
  | .magTape d => d.holds k
  | .cardPunch d => d.reserved
  | .cardReader d => d.reserved
  | _ => false

/-- The other division of a coupler has just dropped its Write signal (R365). -/
def Device.writeDrops (old new : Device) : Bool :=
  match old, new with
  | .coupler d, .coupler e => d.connected && d.otherWrite && !e.otherWrite
  | _, _ => false

/-! ### The equipments of the machine -/

/-- Two controls of one equipment. -/
def Attached.linked (e f : Attached) : Bool := e.shared.isSome && e.shared == f.shared

/-- A control at a place of the list becomes `d`, and every other control of its equipment follows. -/
def putDevice (e : Attached) (d : Device) : Nat → List Attached → List Attached
  | _, [] => []
  | 0, f :: fs =>
    { f with device := d } ::
      fs.map (fun g => if e.linked g then { g with device := d.follow g.device } else g)
  | i + 1, f :: fs =>
    (if e.linked f then { f with device := d.follow f.device } else f) :: putDevice e d i fs

/-- Of two answers on one channel, the one the channel sees. -/
def Reply.or : Reply → Reply → Reply
  | .reply, _ => .reply
  | .reject, .reply => .reply
  | .reject, .reject => .reject
  | .reject, .silent => .reject
  | .silent, r => r

/-- The first n controls act one after another, those that `f` gives an action. -/
def sweep (f : Attached → Option (Reply × Device)) : Nat → List Attached → Reply × List Attached
  | 0, es => (.silent, es)
  | n + 1, es =>
    let p := sweep f n es
    match p.2[n]? with
    | none => p
    | some e =>
      match f e with
      | none => p
      | some a => (p.1.or a.1, putDevice e a.2 n p.2)

/-- Change every control that a test chooses. -/
def onChosen (c : Attached → Bool) (f : Attached → Device) (es : List Attached) : List Attached :=
  (sweep (fun e => if c e then some (.silent, f e) else none) es.length es).2

/-- Change every equipment of a channel. -/
def onChannel (x : ChanId) (f : Attached → Device) (es : List Attached) : List Attached :=
  onChosen (fun e => decide (e.channel = x)) f es

/-- The control of a number on a channel. -/
def Attached.isAt (e : Attached) (x : ChanId) (n : BitVec 3) : Bool := decide (e.channel = x) && decide (e.number = n)

/-- A connect code sent on channel x: every equipment sees it (R342). -/
def connectAll (x : ChanId) (c : BitVec 12) (es : List Attached) : Reply × List Attached :=
  sweep
    (fun e =>
      if e.channel = x then some (e.device.connect (e.number == c.extractLsb' 9 3) (c.extractLsb' 0 9)) else none)
    es.length es

/-- A function code sent on channel x to the equipment numbered `n`. -/
def functionAll (x : ChanId) (n : BitVec 3) (c : BitVec 12) (free : Bool) (es : List Attached) :
    Reply × List Attached :=
  sweep (fun e => if e.isAt x n then some (e.device.function c free) else none) es.length es

/-- `Status[x]`: 0 when no equipment is connected (spec/46_input_output.md R308). -/
def statusLines (x : ChanId) : List Attached → BitVec 12
  | [] => 0
  | e :: es => (if e.channel = x ∧ e.device.connected then e.device.status else 0) ||| statusLines x es

/-- `IntLines[x]`: bit e is the line of equipment number e (spec/46_input_output.md R316). -/
def interruptLines (x : ChanId) : List Attached → BitVec 8
  | [] => 0
  | e :: es => (if e.channel = x ∧ e.device.signal then 1#8 <<< e.number.toNat else 0) ||| interruptLines x es

/-- Whether another control of the equipment of `e` is cabled to this machine, and what it holds. -/
def twinOf (e : Attached) (es : List Attached) : Twin :=
  let others := es.filter (fun g => e.linked g && !g.isAt e.channel e.number)
  if others.isEmpty then none else some (fun k => others.any (fun g => g.device.holds k))

/-- A control newly cabled, with its power just on; it sees what the other controls of its equipment hold. -/
def newControl (x : ChanId) (n : BitVec 3) (k : Option Nat) (d : Device) (es : List Attached) : Attached :=
  let e : Attached := { channel := x, number := n, shared := k, device := d.powerOn }
  { e with
    device := es.foldl (fun q g => if e.linked g then g.device.follow q else q) e.device }

/-- Every tape operation that waits for a unit which is idle now begins, on whichever control it waits (R362). -/
def resumeAll (es : List Attached) : List Attached :=
  onChosen (fun e => e.device.resumes) (fun e => e.device.resume) es

/-- The equipment event of channel x and number n: change that equipment, or cable a new control, one of equipment `k`
of this machine where that is given. -/
def replaceEquipment (x : ChanId) (n : BitVec 3) (k : Option Nat) (d : Device) (es : List Attached) : List Attached :=
  if es.any (fun e => e.isAt x n) then
    resumeAll (onChosen (fun e => e.isAt x n) (fun e => e.device.mechanical (twinOf e es) d) es)
  else es ++ [newControl x n k d es]

/-- Power is applied to the equipment of channel x and number n: the Power On MC of all its controls (R352, R359,
R365). -/
def powerOnEquipment (x : ChanId) (n : BitVec 3) (es : List Attached) : List Attached :=
  onChosen (fun e => e.isAt x n || es.any (fun g => g.isAt x n && g.linked e)) (fun e => e.device.powerOn) es

/-- Take an equipment off its channel. -/
def removeEquipment (x : ChanId) (n : BitVec 3) (es : List Attached) : List Attached :=
  es.filter (fun e => !e.isAt x n)

end Sys2Proof.Machine
end

