-- ==== Sys2Proof/Syntax.lean ====
section
/-! DEFINITION. The instructions: one constructor for each row of spec/opcode_table.json, in its order
(spec/30_encoding.md R104, R109). -/

namespace Sys2Proof

/-- The six index registers (spec/10_state.md R23). -/
inductive Ix where
  | b1 | b2 | b3 | b4 | b5 | b6
deriving DecidableEq, Repr

/-- An index designator, 3 bits (spec/30_encoding.md R97 to R99): 0 no index register, 1 to 6 an index register,
7 indirect addressing. -/
inductive Desig where
  | zero
  | ix (r : Ix)
  | seven
deriving DecidableEq, Repr

/-- The conditions of the register jumps, j mod 4 (spec/44_jumps_stops.md R243). -/
inductive RegCond where
  | zero | nonzero | positive | negative
deriving DecidableEq, Repr

/-- The conditions of the selective jumps and stops, j mod 4 (spec/44_jumps_stops.md R248, R250): 0 unconditional,
1 to 3 the console or maintenance panel switch of that number. -/
inductive SwCond where
  | always | sw1 | sw2 | sw3
deriving DecidableEq, Repr

/-- The instruction set. The 24-bit `j` fields of the eight jump and stop rows are two bits wide: the row itself
tells the normal jump from the return jump. -/
inductive Instr where
  /-- IAQ, Interchange A and Q: `00700554` (R130). -/
  | iaq
  /-- LDA, Load A: `12 b m` (R131). -/
  | lda (b : Desig) (m : Addr)
  /-- LDQ, Load Q: `16 b m` (R133). -/
  | ldq (b : Desig) (m : Addr)
  /-- STA, Store A: `20 b m` (R135). -/
  | sta (b : Desig) (m : Addr)
  /-- STQ, Store Q: `21 b m` (R136). -/
  | stq (b : Desig) (m : Addr)
  /-- LAC, Load A, Complement: `13 b m` (R132). -/
  | lac (b : Desig) (m : Addr)
  /-- LQC, Load Q, Complement: `17 b m` (R134). -/
  | lqc (b : Desig) (m : Addr)
  /-- SAL, Substitute Address (lower): `61 b m` (R143). -/
  | sal (b : Desig) (m : Addr)
  /-- SAU, Substitute Address (upper): `60 b m` (R142). -/
  | sau (b : Desig) (m : Addr)
  /-- ENQ, Enter Q: `04 b y` (R144). -/
  | enq (b : Desig) (y : Addr)
  /-- ENA, Enter A: `10 b y` (R145). -/
  | ena (b : Desig) (y : Addr)
  /-- LIL, Load Index (lower): `53 b m` (R139). -/
  | lil (b : Desig) (m : Addr)
  /-- LIU, Load Index (upper): `52 b m` (R138). -/
  | liu (b : Desig) (m : Addr)
  /-- SIL, Store Index (lower): `57 b m` (R141). -/
  | sil (b : Desig) (m : Addr)
  /-- SIU, Store Index (upper): `56 b m` (R140). -/
  | siu (b : Desig) (m : Addr)
  /-- ENI, Enter Index: `50 b y` (R146). -/
  | eni (b : Desig) (y : Addr)
  /-- ATI, Transmit A to Index: `0074054b` (R147). -/
  | ati (b : Desig)
  /-- ADD, Add: `14 b m` (R162). -/
  | add (b : Desig) (m : Addr)
  /-- SUB, Subtract: `15 b m` (R163). -/
  | sub (b : Desig) (m : Addr)
  /-- MUI, Multiply Integer: `24 b m` (R164). -/
  | mui (b : Desig) (m : Addr)
  /-- DVI, Divide Integer: `25 b m` (R165). -/
  | dvi (b : Desig) (m : Addr)
  /-- INA, Increase A: `11 b y` (R180). -/
  | ina (b : Desig) (y : Addr)
  /-- INI, Increase Index: `51 b y` (R181). -/
  | ini (b : Desig) (y : Addr)
  /-- ISK, Index Skip: `54 b y` (R182). -/
  | isk (b : Desig) (y : Addr)
  /-- SST, Selective Set: `40 b m` (R191). -/
  | sst (b : Desig) (m : Addr)
  /-- SCL, Selective Clear: `41 b m` (R192). -/
  | scl (b : Desig) (m : Addr)
  /-- SCM, Selective Complement: `42 b m` (R193). -/
  | scm (b : Desig) (m : Addr)
  /-- SSU, Selective Substitute: `43 b m` (R194). -/
  | ssu (b : Desig) (m : Addr)
  /-- LDL, Load Logical: `44 b m` (R195). -/
  | ldl (b : Desig) (m : Addr)
  /-- ADL, Add Logical: `45 b m` (R196). -/
  | adl (b : Desig) (m : Addr)
  /-- SBL, Subtract Logical: `46 b m` (R197). -/
  | sbl (b : Desig) (m : Addr)
  /-- STL, Store Logical: `47 b m` (R198). -/
  | stl (b : Desig) (m : Addr)
  /-- ARS, A Right Shift: `01 b k` (R201). -/
  | ars (b : Desig) (k : Addr)
  /-- QRS, Q Right Shift: `02 b k` (R202). -/
  | qrs (b : Desig) (k : Addr)
  /-- LRS, Long Right Shift (AQ): `03 b k` (R203). -/
  | lrs (b : Desig) (k : Addr)
  /-- ALS, A Left Shift: `05 b k` (R204). -/
  | als (b : Desig) (k : Addr)
  /-- QLS, Q Left Shift: `06 b k` (R205). -/
  | qls (b : Desig) (k : Addr)
  /-- LLS, Long Left Shift (AQ): `07 b k` (R206). -/
  | lls (b : Desig) (k : Addr)
  /-- SCA, Scale A: `34 b k` (R211). -/
  | sca (b : Desig) (k : Addr)
  /-- SCQ, Scale AQ: `35 b k` (R212). -/
  | scq (b : Desig) (k : Addr)
  /-- RAD, Replace Add: `70 b m` (R221). -/
  | rad (b : Desig) (m : Addr)
  /-- RSB, Replace Subtract: `71 b m` (R222). -/
  | rsb (b : Desig) (m : Addr)
  /-- RAO, Replace Add One: `72 b m` (R223). -/
  | rao (b : Desig) (m : Addr)
  /-- RSO, Replace Subtract One: `73 b m` (R224). -/
  | rso (b : Desig) (m : Addr)
  /-- SSK, Storage Skip: `36 b m` (R226). -/
  | ssk (b : Desig) (m : Addr)
  /-- SSH, Storage Shift: `37 b m` (R227). -/
  | ssh (b : Desig) (m : Addr)
  /-- EQS, Equality Search: `64 b m` (R231). -/
  | eqs (b : Desig) (m : Addr)
  /-- THS, Threshold Search: `65 b m` (R232). -/
  | ths (b : Desig) (m : Addr)
  /-- MEQ, Masked Equality Search: `66 b m` (R233). -/
  | meq (b : Desig) (m : Addr)
  /-- MTH, Masked Threshold Search: `67 b m` (R234). -/
  | mth (b : Desig) (m : Addr)
  /-- AJP, A Jump: `22 j m, j = 0..3` (R243). -/
  | ajp (j : RegCond) (m : Addr)
  /-- ARJ, A Return Jump: `22 j m, j = 4..7` (R244). -/
  | arj (j : RegCond) (m : Addr)
  /-- QJP, Q Jump: `23 j m, j = 0..3` (R245). -/
  | qjp (j : RegCond) (m : Addr)
  /-- QRJ, Q Return Jump: `23 j m, j = 4..7` (R246). -/
  | qrj (j : RegCond) (m : Addr)
  /-- IJP, Index Jump: `55 b m` (R247). -/
  | ijp (b : Desig) (m : Addr)
  /-- SLJ, Selective Jump (SLJ, SJ1, SJ2, SJ3): `75 j m, j = 0..3` (R248). -/
  | slj (j : SwCond) (m : Addr)
  /-- RTJ, Selective Return Jump (RTJ, RJ1, RJ2, RJ3): `75 j m, j = 4..7` (R249). -/
  | rtj (j : SwCond) (m : Addr)
  /-- SLS, Selective Stop (SLS, SS1, SS2, SS3): `76 j m, j = 0..3` (R250). -/
  | sls (j : SwCond) (m : Addr)
  /-- SRJ, Selective Stop, Return Jump (SRJ, SR1, SR2, SR3): `76 j m, j = 4..7` (R251). -/
  | srj (j : SwCond) (m : Addr)
  /-- CONN, Connect: `740 n 0 x 00 cccc` (R303). -/
  | conn (n : Addr) (x : BitVec 3) (c : BitVec 12)
  /-- EXTF, Function: `741 n 0 x 00 cccc` (R304). -/
  | extf (n : Addr) (x : BitVec 3) (c : BitVec 12)
  /-- BEGR, Read: `742 n 0 x 0 mmmmm` (R305). -/
  | begr (n : Addr) (x : BitVec 3) (m : Addr)
  /-- BEGW, Write: `743 n 0 x 0 mmmmm` (R306). -/
  | begw (n : Addr) (x : BitVec 3) (m : Addr)
  /-- COPY, Copy Status: `744 00000 0 x 000000` (R308). -/
  | copy (x : BitVec 3)
  /-- CLCH, Clear Channel: `745 00000 0 x 000000` (R311). -/
  | clch (x : BitVec 3)
  /-- CCWD, Change Control Word: `746 00000 0 x 000000` (R312). -/
  | ccwd (x : BitVec 3)
  /-- CIS, Copy Interrupt Status: `77 2 00000` (R309). -/
  | cis
  /-- SEN, Internal Sense: `77 3 yyyyy` (R280). -/
  | sen (y : Addr)
  /-- CPR, Copy Product Register: `77 4 00000` (R310). -/
  | cpr
  /-- INF, Internal Function: `77 0 yyyyy` (R265). -/
  | inf (y : Addr)
  /-- AUG, Augment: `77 1 v 000 t` (R283). -/
  | aug (v : Desig) (t2 : Bool) (t1 : Bool) (t0 : Bool)
  /-- EUB, Enter Upper Bound: `77 5 (y8 in bits 14..7)` (R288). -/
  | eub (y : BitVec 8)
  /-- ELB, Enter Lower Bound: `77 6 (y8 in bits 14..7)` (R289). -/
  | elb (y : BitVec 8)
  /-- LDC, Load Character: `63 b v 0006500 m` (R261). -/
  | ldc (b : Desig) (v : Desig) (m : Addr)
  /-- STC, Store Character: `63 b v 0006505 m` (R262). -/
  | stc (b : Desig) (v : Desig) (m : Addr)
  /-- FAD, Floating Add (floating point option): `30 b m` (R172). -/
  | fad (b : Desig) (m : Addr)
  /-- FSB, Floating Subtract (floating point option): `31 b m` (R173). -/
  | fsb (b : Desig) (m : Addr)
  /-- FMU, Floating Multiply (floating point option): `32 b m` (R174). -/
  | fmu (b : Desig) (m : Addr)
  /-- FDV, Floating Divide (floating point option): `33 b m` (R175). -/
  | fdv (b : Desig) (m : Addr)
deriving DecidableEq, Repr

/-- A 24-bit instruction or a 48-bit one, as it is written in storage (R90). -/
inductive Code where
  | half (h : HalfWord)
  | whole (w : Word)
deriving DecidableEq, Repr

end Sys2Proof
end

