-- ==== Sys2Proof/WellFormed.lean ====
section
/-! DEFINITION. Which instructions the spec gives a meaning: the operand values it calls undefined or does not list
are ill-formed (spec/30_encoding.md R106). Every bit field has its encoding's width by its type. -/

namespace Sys2Proof

/-- The designator names an index register, as ATI's b and LDC's and STC's v must (spec/40_transmission.md R147,
spec/45_character_internal.md R260). -/
def Desig.isIx : Desig → Bool
  | .zero => false
  | .ix _ => true
  | .seven => false

/-- The function codes of INF that spec/45_character_internal.md R276 lists (59; the rule says 65, log 16). -/
def infCodes : List Nat :=
  [0o00000, 0o00001, 0o00010, 0o00011, 0o00020, 0o00021, 0o00030, 0o00031, 0o00110, 0o00111, 0o00120, 0o00121,
   0o00200, 0o00201, 0o00210, 0o00211, 0o00220, 0o00221, 0o00230, 0o00231] ++
  [0o00300, 0o00301, 0o00310, 0o00311, 0o00320, 0o00321, 0o00330, 0o00331, 0o00400, 0o00410, 0o00411, 0o00412,
   0o00420, 0o00421, 0o00422, 0o00430, 0o00431, 0o00432, 0o00440, 0o00441, 0o00442, 0o00450, 0o00451, 0o00452] ++
  [0o00500, 0o00501, 0o00510, 0o00511, 0o00520, 0o00521, 0o00522, 0o00530, 0o00531, 0o00532, 0o00540, 0o00541,
   0o00600, 0o00601, 0o00602]

/-- The 16 codes of SEN (spec/45_character_internal.md R281). -/
def senCodes : List Nat :=
  [0o00000, 0o00001, 0o00010, 0o00011, 0o00020, 0o00021, 0o00030, 0o00031, 0o00110, 0o00111, 0o00120, 0o00121,
   0o00210, 0o00211, 0o00220, 0o00221]

/-- The channel digit is one of the four possible channels (spec/46_input_output.md R300). -/
def channelDigit (x : BitVec 3) : Bool := decide (x.toNat < 4)

/-- The check: the operand values that the spec describes. -/
def Instr.wf : Instr → Bool
  | .iaq => true
  | .lda _ _ => true
  | .ldq _ _ => true
  | .sta _ _ => true
  | .stq _ _ => true
  | .lac _ _ => true
  | .lqc _ _ => true
  | .sal _ _ => true
  | .sau _ _ => true
  | .enq _ _ => true
  | .ena _ _ => true
  | .lil _ _ => true
  | .liu _ _ => true
  | .sil _ _ => true
  | .siu _ _ => true
  | .eni _ _ => true
  | .ati b => b.isIx
  | .add _ _ => true
  | .sub _ _ => true
  | .mui _ _ => true
  | .dvi _ _ => true
  | .ina _ _ => true
  | .ini _ _ => true
  | .isk _ _ => true
  | .sst _ _ => true
  | .scl _ _ => true
  | .scm _ _ => true
  | .ssu _ _ => true
  | .ldl _ _ => true
  | .adl _ _ => true
  | .sbl _ _ => true
  | .stl _ _ => true
  | .ars _ _ => true
  | .qrs _ _ => true
  | .lrs _ _ => true
  | .als _ _ => true
  | .qls _ _ => true
  | .lls _ _ => true
  | .sca _ _ => true
  | .scq _ _ => true
  | .rad _ _ => true
  | .rsb _ _ => true
  | .rao _ _ => true
  | .rso _ _ => true
  | .ssk _ _ => true
  | .ssh _ _ => true
  | .eqs _ _ => true
  | .ths _ _ => true
  | .meq _ _ => true
  | .mth _ _ => true
  | .ajp _ _ => true
  | .arj _ _ => true
  | .qjp _ _ => true
  | .qrj _ _ => true
  | .ijp _ _ => true
  | .slj _ _ => true
  | .rtj _ _ => true
  | .sls _ _ => true
  | .srj _ _ => true
  | .conn _ x _ => channelDigit x
  | .extf _ x _ => channelDigit x
  | .begr _ x _ => channelDigit x
  | .begw _ x _ => channelDigit x
  | .copy x => channelDigit x
  | .clch x => channelDigit x
  | .ccwd x => channelDigit x
  | .cis => true
  | .sen y => senCodes.contains y.toNat
  | .cpr => true
  | .inf y => infCodes.contains y.toNat
  | .aug _ _ _ _ => true
  | .eub _ => true
  | .elb _ => true
  | .ldc _ v _ => v.isIx
  | .stc _ v _ => v.isIx
  | .fad _ _ => true
  | .fsb _ _ => true
  | .fmu _ _ => true
  | .fdv _ _ => true

end Sys2Proof
end

