-- ==== Sys2Proof/Decode.lean ====
section
/-! DEFINITION. The decoder, total on any word and rejecting by name, and the encoder, both from the formats of
spec/30_encoding.md R91 to R95 and the opcode map of R104. -/

namespace Sys2Proof

/-- The `len` bits of a word from bit `lo` up. -/
def field {n : Nat} (w : BitVec n) (lo len : Nat) : BitVec len := w.extractLsb' lo len

/-- The designator of a 3-bit field (R97 to R99). -/
def Desig.ofBits (d : BitVec 3) : Desig :=
  match d.toNat with
  | 0 => .zero
  | 1 => .ix .b1
  | 2 => .ix .b2
  | 3 => .ix .b3
  | 4 => .ix .b4
  | 5 => .ix .b5
  | 6 => .ix .b6
  | _ => .seven

/-- The 3-bit field of a designator. -/
def Desig.bits : Desig → BitVec 3
  | .zero => 0
  | .ix .b1 => 1
  | .ix .b2 => 2
  | .ix .b3 => 3
  | .ix .b4 => 4
  | .ix .b5 => 5
  | .ix .b6 => 6
  | .seven => 7

/-- The condition of j mod 4 (spec/44_jumps_stops.md R243). -/
def RegCond.ofBits (j : BitVec 2) : RegCond :=
  match j.toNat with
  | 0 => .zero
  | 1 => .nonzero
  | 2 => .positive
  | _ => .negative

/-- j mod 4 of a condition. -/
def RegCond.bits : RegCond → BitVec 2
  | .zero => 0
  | .nonzero => 1
  | .positive => 2
  | .negative => 3

/-- The switch condition of j mod 4 (spec/44_jumps_stops.md R248). -/
def SwCond.ofBits (j : BitVec 2) : SwCond :=
  match j.toNat with
  | 0 => .always
  | 1 => .sw1
  | 2 => .sw2
  | _ => .sw3

/-- j mod 4 of a switch condition. -/
def SwCond.bits : SwCond → BitVec 2
  | .always => 0
  | .sw1 => 1
  | .sw2 => 2
  | .sw3 => 3

/-- Why the decoder rejects a word: the encodings the source neither defines nor lists as illegal (R106), and nonzero
bits in a field drawn as zero (R107). -/
inductive DecodeReject where
  /-- Function code 62 (R106 a). -/
  | code62
  /-- Function code 00 that is neither IAQ nor ATI (R106 b). -/
  | code00
  /-- Function code 63 in the upper half with word bits 35..15 neither 0006500 nor 0006505 (R106 c). -/
  | code63
  /-- Function code 74 or 63 in the lower half (R106 d). -/
  | wholeInLowerHalf
  /-- A nonzero bit in a field drawn as zero (R107). -/
  | nonzeroField
deriving DecidableEq, Repr

/-- What the decoder says of a word. -/
inductive Decoded where
  | instr (i : Instr)
  /-- One of the illegal codes 26, 27, 74.7, 77.7 (R105): executing it is a Category III interrupt. -/
  | illegal
  | unlisted (r : DecodeReject)
deriving DecidableEq, Repr

/-- Function code 00 (R95): IAQ and ATI only. -/
def decodeCode00 (h : HalfWord) : Decoded :=
  if h = 0o00700554#24 then .instr .iaq
  else if field h 3 21 = 0o0074054#21 then .instr (.ati (.ofBits (field h 0 3)))
  else .unlisted .code00

/-- t2 of AUG's t field (spec/45_character_internal.md R283). -/
def augT2 (t : BitVec 3) : Bool := t.getLsbD 2

/-- t1 of AUG's t field. -/
def augT1 (t : BitVec 3) : Bool := t.getLsbD 1

/-- t0 of AUG's t field. -/
def augT0 (t : BitVec 3) : Bool := t.getLsbD 0

/-- Class II, function codes 77.0 to 77.7 (R92, R94). -/
def decodeClass2 (h : HalfWord) : Decoded :=
  match (field h 15 3).toNat with
  | 0 => .instr (.inf (field h 0 15))
  | 1 =>
    if field h 3 9 = 0#9 then
      .instr (.aug (.ofBits (field h 12 3)) (augT2 (field h 0 3)) (augT1 (field h 0 3)) (augT0 (field h 0 3)))
    else .unlisted .nonzeroField
  | 2 => if field h 0 15 = 0#15 then .instr .cis else .unlisted .nonzeroField
  | 3 => .instr (.sen (field h 0 15))
  | 4 => if field h 0 15 = 0#15 then .instr .cpr else .unlisted .nonzeroField
  | 5 => if field h 0 7 = 0#7 then .instr (.eub (field h 7 8)) else .unlisted .nonzeroField
  | 6 => if field h 0 7 = 0#7 then .instr (.elb (field h 7 8)) else .unlisted .nonzeroField
  | _ => .illegal

/-- A 24-bit instruction, `decode_half` of R95. Bit 17 tells a return jump from a normal jump (R109). -/
def decodeHalf (h : HalfWord) : Decoded :=
  let b := Desig.ofBits (field h 15 3)
  let m := field h 0 15
  let j := field h 15 2
  match (field h 18 6).toNat with
  | 0o00 => decodeCode00 h
  | 0o01 => .instr (.ars b m)
  | 0o02 => .instr (.qrs b m)
  | 0o03 => .instr (.lrs b m)
  | 0o04 => .instr (.enq b m)
  | 0o05 => .instr (.als b m)
  | 0o06 => .instr (.qls b m)
  | 0o07 => .instr (.lls b m)
  | 0o10 => .instr (.ena b m)
  | 0o11 => .instr (.ina b m)
  | 0o12 => .instr (.lda b m)
  | 0o13 => .instr (.lac b m)
  | 0o14 => .instr (.add b m)
  | 0o15 => .instr (.sub b m)
  | 0o16 => .instr (.ldq b m)
  | 0o17 => .instr (.lqc b m)
  | 0o20 => .instr (.sta b m)
  | 0o21 => .instr (.stq b m)
  | 0o22 => if field h 17 1 = 1#1 then .instr (.arj (.ofBits j) m) else .instr (.ajp (.ofBits j) m)
  | 0o23 => if field h 17 1 = 1#1 then .instr (.qrj (.ofBits j) m) else .instr (.qjp (.ofBits j) m)
  | 0o24 => .instr (.mui b m)
  | 0o25 => .instr (.dvi b m)
  | 0o26 => .illegal
  | 0o27 => .illegal
  | 0o30 => .instr (.fad b m)
  | 0o31 => .instr (.fsb b m)
  | 0o32 => .instr (.fmu b m)
  | 0o33 => .instr (.fdv b m)
  | 0o34 => .instr (.sca b m)
  | 0o35 => .instr (.scq b m)
  | 0o36 => .instr (.ssk b m)
  | 0o37 => .instr (.ssh b m)
  | 0o40 => .instr (.sst b m)
  | 0o41 => .instr (.scl b m)
  | 0o42 => .instr (.scm b m)
  | 0o43 => .instr (.ssu b m)
  | 0o44 => .instr (.ldl b m)
  | 0o45 => .instr (.adl b m)
  | 0o46 => .instr (.sbl b m)
  | 0o47 => .instr (.stl b m)
  | 0o50 => .instr (.eni b m)
  | 0o51 => .instr (.ini b m)
  | 0o52 => .instr (.liu b m)
  | 0o53 => .instr (.lil b m)
  | 0o54 => .instr (.isk b m)
  | 0o55 => .instr (.ijp b m)
  | 0o56 => .instr (.siu b m)
  | 0o57 => .instr (.sil b m)
  | 0o60 => .instr (.sau b m)
  | 0o61 => .instr (.sal b m)
  | 0o63 => .unlisted .wholeInLowerHalf
  | 0o64 => .instr (.eqs b m)
  | 0o65 => .instr (.ths b m)
  | 0o66 => .instr (.meq b m)
  | 0o67 => .instr (.mth b m)
  | 0o70 => .instr (.rad b m)
  | 0o71 => .instr (.rsb b m)
  | 0o72 => .instr (.rao b m)
  | 0o73 => .instr (.rso b m)
  | 0o74 => .unlisted .wholeInLowerHalf
  | 0o75 => if field h 17 1 = 1#1 then .instr (.rtj (.ofBits j) m) else .instr (.slj (.ofBits j) m)
  | 0o76 => if field h 17 1 = 1#1 then .instr (.srj (.ofBits j) m) else .instr (.sls (.ofBits j) m)
  | 0o77 => decodeClass2 h
  | _ => .unlisted .code62

/-- Class III, the 48-bit function codes 74.0 to 74.7 (R93). -/
def decodeClass3 (w : Word) : Decoded :=
  let n := field w 24 15
  let x := field w 18 3
  let c := field w 0 12
  let m := field w 0 15
  let zeroC := field w 21 3 = 0#3 ∧ field w 12 6 = 0#6
  let zeroM := field w 21 3 = 0#3 ∧ field w 15 3 = 0#3
  let zeroX := field w 21 18 = 0#18 ∧ field w 0 18 = 0#18
  match (field w 39 3).toNat with
  | 0 => if zeroC then .instr (.conn n x c) else .unlisted .nonzeroField
  | 1 => if zeroC then .instr (.extf n x c) else .unlisted .nonzeroField
  | 2 => if zeroM then .instr (.begr n x m) else .unlisted .nonzeroField
  | 3 => if zeroM then .instr (.begw n x m) else .unlisted .nonzeroField
  | 4 => if zeroX then .instr (.copy x) else .unlisted .nonzeroField
  | 5 => if zeroX then .instr (.clch x) else .unlisted .nonzeroField
  | 6 => if zeroX then .instr (.ccwd x) else .unlisted .nonzeroField
  | _ => .illegal

/-- The program step whose upper half is about to execute, `decode_upper` of R95. -/
def decodeWhole (w : Word) : Decoded :=
  match (field w 42 6).toNat with
  | 0o74 => decodeClass3 w
  | 0o63 =>
    let b := Desig.ofBits (field w 39 3)
    let v := Desig.ofBits (field w 36 3)
    let m := field w 0 15
    if field w 15 21 = 0o0006500#21 then .instr (.ldc b v m)
    else if field w 15 21 = 0o0006505#21 then .instr (.stc b v m)
    else .unlisted .code63
  | _ => decodeHalf (field w 24 24)

/-- The instruction of a program step at one of its halves. -/
def decodeAt (w : Word) : Half → Decoded
  | .upper => decodeWhole w
  | .lower => decodeHalf (field w 0 24)

/-- Decode a written instruction. -/
def decode : Code → Decoded
  | .half h => decodeHalf h
  | .whole w => decodeWhole w

/-- The bits of a Class I instruction: 6-bit function code, designator, execution address (R91). -/
def class1Bits (f : BitVec 6) (b : BitVec 3) (m : Addr) : HalfWord := f ++ b ++ m

/-- The bits of a jump or stop: function code, normal or return, j mod 4, address (R91, R109). -/
def classJBits (f : BitVec 6) (ret : BitVec 1) (j : BitVec 2) (m : Addr) : HalfWord := f ++ ret ++ j ++ m

/-- The bits of a Class II instruction: 9-bit function code, 15-bit operand (R92). -/
def class2Bits (f : BitVec 9) (y : Addr) : HalfWord := f ++ y

/-- The bits of EUB and ELB: 8-bit operand above seven zeros (R94). -/
def classBoundBits (f : BitVec 9) (y : BitVec 8) : HalfWord := f ++ y ++ 0#7

/-- The bits of AUG: v, nine zeros, t (R94). -/
def classAugBits (f : BitVec 9) (v : BitVec 3) (t : BitVec 3) : HalfWord := f ++ v ++ 0#9 ++ t

/-- The bits of ATI: a 21-bit constant and b (R94). -/
def classAtiBits (f : BitVec 21) (b : BitVec 3) : HalfWord := f ++ b

/-- The bits of CONN and EXTF: reject address, channel, 12-bit code (R93). -/
def class3cBits (f : BitVec 9) (n : Addr) (x : BitVec 3) (c : BitVec 12) : Word := f ++ n ++ 0#3 ++ x ++ 0#6 ++ c

/-- The bits of BEGR and BEGW: reject address, channel, control word address (R93). -/
def class3mBits (f : BitVec 9) (n : Addr) (x : BitVec 3) (m : Addr) : Word := f ++ n ++ 0#3 ++ x ++ 0#3 ++ m

/-- The bits of COPY, CLCH and CCWD: channel only (R93). -/
def class3xBits (f : BitVec 9) (x : BitVec 3) : Word := f ++ 0#18 ++ x ++ 0#18

/-- The bits of LDC and STC: `63 b v` and a 21-bit constant, then m (R94). -/
def classCharBits (f : BitVec 6) (b v : BitVec 3) (k : BitVec 21) (m : Addr) : Word := f ++ b ++ v ++ k ++ m

/-- A Class I instruction. -/
def class1 (f : BitVec 6) (b : Desig) (m : Addr) : Code := .half (class1Bits f b.bits m)

/-- A jump or stop instruction. -/
def classJ (f : BitVec 6) (ret : BitVec 1) (j : BitVec 2) (m : Addr) : Code := .half (classJBits f ret j m)

/-- A Class II instruction. -/
def class2 (f : BitVec 9) (y : Addr) : Code := .half (class2Bits f y)

/-- The three bits of AUG's t field (spec/45_character_internal.md R283). -/
def augBits (t2 t1 t0 : Bool) : BitVec 3 := BitVec.ofBool t2 ++ BitVec.ofBool t1 ++ BitVec.ofBool t0

/-- The words of an instruction. -/
def encode : Instr → Code
  | .iaq => .half 0o00700554#24
  | .lda b m => class1 0o12#6 b m
  | .ldq b m => class1 0o16#6 b m
  | .sta b m => class1 0o20#6 b m
  | .stq b m => class1 0o21#6 b m
  | .lac b m => class1 0o13#6 b m
  | .lqc b m => class1 0o17#6 b m
  | .sal b m => class1 0o61#6 b m
  | .sau b m => class1 0o60#6 b m
  | .enq b y => class1 0o04#6 b y
  | .ena b y => class1 0o10#6 b y
  | .lil b m => class1 0o53#6 b m
  | .liu b m => class1 0o52#6 b m
  | .sil b m => class1 0o57#6 b m
  | .siu b m => class1 0o56#6 b m
  | .eni b y => class1 0o50#6 b y
  | .ati b => .half (classAtiBits 0o0074054#21 b.bits)
  | .add b m => class1 0o14#6 b m
  | .sub b m => class1 0o15#6 b m
  | .mui b m => class1 0o24#6 b m
  | .dvi b m => class1 0o25#6 b m
  | .ina b y => class1 0o11#6 b y
  | .ini b y => class1 0o51#6 b y
  | .isk b y => class1 0o54#6 b y
  | .sst b m => class1 0o40#6 b m
  | .scl b m => class1 0o41#6 b m
  | .scm b m => class1 0o42#6 b m
  | .ssu b m => class1 0o43#6 b m
  | .ldl b m => class1 0o44#6 b m
  | .adl b m => class1 0o45#6 b m
  | .sbl b m => class1 0o46#6 b m
  | .stl b m => class1 0o47#6 b m
  | .ars b k => class1 0o01#6 b k
  | .qrs b k => class1 0o02#6 b k
  | .lrs b k => class1 0o03#6 b k
  | .als b k => class1 0o05#6 b k
  | .qls b k => class1 0o06#6 b k
  | .lls b k => class1 0o07#6 b k
  | .sca b k => class1 0o34#6 b k
  | .scq b k => class1 0o35#6 b k
  | .rad b m => class1 0o70#6 b m
  | .rsb b m => class1 0o71#6 b m
  | .rao b m => class1 0o72#6 b m
  | .rso b m => class1 0o73#6 b m
  | .ssk b m => class1 0o36#6 b m
  | .ssh b m => class1 0o37#6 b m
  | .eqs b m => class1 0o64#6 b m
  | .ths b m => class1 0o65#6 b m
  | .meq b m => class1 0o66#6 b m
  | .mth b m => class1 0o67#6 b m
  | .ajp j m => classJ 0o22#6 0#1 j.bits m
  | .arj j m => classJ 0o22#6 1#1 j.bits m
  | .qjp j m => classJ 0o23#6 0#1 j.bits m
  | .qrj j m => classJ 0o23#6 1#1 j.bits m
  | .ijp b m => class1 0o55#6 b m
  | .slj j m => classJ 0o75#6 0#1 j.bits m
  | .rtj j m => classJ 0o75#6 1#1 j.bits m
  | .sls j m => classJ 0o76#6 0#1 j.bits m
  | .srj j m => classJ 0o76#6 1#1 j.bits m
  | .conn n x c => .whole (class3cBits 0o740#9 n x c)
  | .extf n x c => .whole (class3cBits 0o741#9 n x c)
  | .begr n x m => .whole (class3mBits 0o742#9 n x m)
  | .begw n x m => .whole (class3mBits 0o743#9 n x m)
  | .copy x => .whole (class3xBits 0o744#9 x)
  | .clch x => .whole (class3xBits 0o745#9 x)
  | .ccwd x => .whole (class3xBits 0o746#9 x)
  | .cis => class2 0o772#9 0
  | .sen y => class2 0o773#9 y
  | .cpr => class2 0o774#9 0
  | .inf y => class2 0o770#9 y
  | .aug v t2 t1 t0 => .half (classAugBits 0o771#9 v.bits (augBits t2 t1 t0))
  | .eub y => .half (classBoundBits 0o775#9 y)
  | .elb y => .half (classBoundBits 0o776#9 y)
  | .ldc b v m => .whole (classCharBits 0o63#6 b.bits v.bits 0o0006500#21 m)
  | .stc b v m => .whole (classCharBits 0o63#6 b.bits v.bits 0o0006505#21 m)
  | .fad b m => class1 0o30#6 b m
  | .fsb b m => class1 0o31#6 b m
  | .fmu b m => class1 0o32#6 b m
  | .fdv b m => class1 0o33#6 b m

/-- The storage word that holds an instruction, with `l` as the lower half beside a 24-bit one (R90). -/
def Code.inWord (l : HalfWord) : Code → Word
  | .half h => h ++ l
  | .whole w => w

/-- The instruction the decoder reads from an instruction whose bits are `w`, numbered as spec/opcode_table.json
numbers them: a 24-bit row stands in the upper half of a step, a 48-bit row is the whole step (R95; log 37). -/
def decodeTableWord (nbits w : Nat) : Option Instr :=
  let word : Word := if nbits ≤ 24 then BitVec.ofNat 24 w ++ 0#24 else BitVec.ofNat 48 w
  match decodeWhole word with
  | .instr i => some i
  | .illegal => none
  | .unlisted _ => none

end Sys2Proof
end

