-- ==== Sys2Proof/Machine/Memory.lean ====
section
/-! DEFINITION. Core storage as plain data (spec/20_memory.md R60 to R66): the word at address `a` is six cells,
keys 6a to 6a + 5, the leftmost eight bits first (the model's own layout, log 1). -/

namespace Sys2Proof.Machine

/-- Storage: the bytes that do not read as an unlisted byte does, keys strictly rising. -/
abbrev Memory := List Host.Cell

/-- What a byte that nothing has written reads as (DESIGN CHOICE, log 2). -/
def unlistedByte : BitVec 8 := 0

/-- Read one byte. -/
def Memory.readByte (m : Memory) (k : Nat) : BitVec 8 :=
  match m with
  | [] => unlistedByte
  | (j, v) :: rest => if j = k then v else Memory.readByte rest k

/-- Put a byte at its place in a list that does not hold its key, unless it reads as an unlisted byte. -/
def Memory.consByte (k : Nat) (v : BitVec 8) (m : Memory) : Memory :=
  if v = unlistedByte then m else (k, v) :: m

/-- Write one byte, keeping the canonical form. -/
def Memory.writeByte (m : Memory) (k : Nat) (v : BitVec 8) : Memory :=
  match m with
  | [] => Memory.consByte k v []
  | (j, w) :: rest =>
    if k < j then Memory.consByte k v ((j, w) :: rest)
    else if k = j then Memory.consByte k v rest
    else (j, w) :: Memory.writeByte rest k v

/-- The number of byte keys of the address space. -/
def Memory.bytes : Nat := 6 * 32768

/-- The canonical form from key `k` up: keys strictly rising, none outside storage, no byte an unlisted byte. -/
def Memory.wfFrom (k : Nat) : Memory → Bool
  | [] => true
  | (j, v) :: rest =>
    decide (k ≤ j) && decide (j < Memory.bytes) && decide (v ≠ unlistedByte) && Memory.wfFrom (j + 1) rest

/-- The canonical form. -/
def Memory.wf (m : Memory) : Bool := Memory.wfFrom 0 m

/-- The key of byte `i` of a word. -/
def byteKey (a : Addr) (i : Nat) : Nat := 6 * a.toNat + i

/-- `MemRead` (R63). -/
def Memory.readWord (m : Memory) (a : Addr) : Word :=
  m.readByte (byteKey a 0) ++ m.readByte (byteKey a 1) ++ m.readByte (byteKey a 2) ++
    m.readByte (byteKey a 3) ++ m.readByte (byteKey a 4) ++ m.readByte (byteKey a 5)

/-- Byte `i` of a word, the leftmost first. -/
def byteOf (w : Word) (i : Nat) : BitVec 8 := w.extractLsb' (40 - 8 * i) 8

/-- The effect of `MemWrite` on storage (R64). -/
def Memory.writeWord (m : Memory) (a : Addr) (w : Word) : Memory :=
  (((((m.writeByte (byteKey a 0) (byteOf w 0)).writeByte (byteKey a 1) (byteOf w 1)).writeByte
    (byteKey a 2) (byteOf w 2)).writeByte (byteKey a 3) (byteOf w 3)).writeByte
    (byteKey a 4) (byteOf w 4)).writeByte (byteKey a 5) (byteOf w 5)

/-- A word with the `len` bits from bit `lo` up replaced (R65). -/
def setField {len : Nat} (w : Word) (lo : Nat) (v : BitVec len) : Word :=
  (w &&& ~~~((BitVec.allOnes len).setWidth 48 <<< lo)) ||| (v.setWidth 48 <<< lo)

end Sys2Proof.Machine
end

