-- ==== Sys2Proof/Machine/State.lean ====
section
/-! DEFINITION. The state of the CONTROL DATA 3400 as plain data, its faults and refusals, and the state after reset
(spec/10_state.md, spec/70_reset_and_hazards.md R420 to R422). -/

namespace Sys2Proof.Machine

/-- The six index registers (R23). -/
structure IndexRegs where
  b1 : Addr
  b2 : Addr
  b3 : Addr
  b4 : Addr
  b5 : Addr
  b6 : Addr
deriving DecidableEq, Repr

/-- All index registers zero. -/
def IndexRegs.zero : IndexRegs := { b1 := 0, b2 := 0, b3 := 0, b4 := 0, b5 := 0, b6 := 0 }

/-- The augment designators (R36). -/
structure Aug where
  t2 : Bool
  t1 : Bool
  t0 : Bool
deriving DecidableEq, Repr

/-- No augment operation. -/
def Aug.none : Aug := { t2 := false, t1 := false, t0 := false }

/-- The single flip-flops of the interrupt system (R31 to R33, R40) and the transients of an exit
(spec/60_exceptions.md R379). -/
structure IntCtl where
  /-- `IntActive` -/
  active : Bool
  /-- Category I Interrupt Lockout FF -/
  lock1 : Bool
  /-- Category I Interrupt Mode FF -/
  mode1 : Bool
  /-- Category I Interrupt Exit FF -/
  exit1 : Bool
  /-- Category II Interrupt Mode FF -/
  mode2 : Bool
  /-- Category II Interrupt Exit FF -/
  exit2 : Bool
  /-- `Cat2Addr` -/
  cat2Addr : Addr
  /-- `TimeArmed` -/
  timeArmed : Bool
  /-- `Exiting` -/
  exiting : Bool
  /-- `ExitSel` -/
  exitSel : Bool
deriving DecidableEq, Repr

/-- The interrupt system's flip-flops all clear. -/
def IntCtl.clear : IntCtl :=
  { active := false, lock1 := false, mode1 := false, exit1 := false, mode2 := false, exit2 := false,
    cat2Addr := 0, timeArmed := false, exiting := false, exitSel := false }

/-- One I/O channel (R38). `IOPar` is bit 20 + x of the Interrupt register. -/
structure Channel where
  /-- `WC` -/
  wc : Addr
  /-- `CA` -/
  ca : Addr
  active : Bool
  dir : Dir
  /-- `Conn`: equipment and unit -/
  conn : Option (BitVec 3 × BitVec 9)
  /-- the model's own: the 12-bit bytes sent to the equipment, in order (spec/46_input_output.md R318; log 26) -/
  sent : List (BitVec 12)
deriving DecidableEq, Repr

/-- A channel after an external master clear (spec/70_reset_and_hazards.md R421). -/
def Channel.clear : Channel := { wc := 0, ca := 0, active := false, dir := .read, conn := none, sent := [] }

/-- The four possible channels. -/
structure Channels where
  c0 : Channel
  c1 : Channel
  c2 : Channel
  c3 : Channel
deriving DecidableEq, Repr

/-- All channels clear. -/
def Channels.clear : Channels := { c0 := .clear, c1 := .clear, c2 := .clear, c3 := .clear }

/-- The locking switches of the console and of the maintenance panel (R39). -/
structure Console where
  jump1 : Bool
  jump2 : Bool
  jump3 : Bool
  stop1 : Bool
  stop2 : Bool
  stop3 : Bool
  maintenance : Bool
  systemActive : Bool
deriving DecidableEq, Repr

/-- The console at reset: System Active has just been switched on, no other switch is set (log 4). -/
def Console.initial : Console :=
  { jump1 := false, jump2 := false, jump3 := false, stop1 := false, stop2 := false, stop3 := false,
    maintenance := false, systemActive := true }

/-- One of three numbered switches. -/
inductive Switch where
  | s1 | s2 | s3
deriving DecidableEq, Repr

/-- One event of a channel as an agent (spec/46_input_output.md R307). -/
inductive ChannelEvent where
  /-- the equipment delivers a word, as four 12-bit bytes, the first one first (R318) -/
  | deliver (x : ChanId) (b1 b2 b3 b4 : BitVec 12)
  /-- the equipment signals End of Record -/
  | endOfRecord (x : ChanId)
  /-- the End of Record of the console's End-of-Record switch reaches the channel (spec/48_external_equipment.md R346):
  `Event.endOfRecordSwitch`, where it falls inside an instruction -/
  | endOfRecordSwitch (x : ChanId)
  /-- the channel tests its word count and, on a write, sends a word -/
  | take (x : ChanId)
  /-- a key of the typewriter at equipment number `n` (spec/48_external_equipment.md R346) -/
  | key (x : ChanId) (n : BitVec 3) (code : BitVec 6)
  /-- a frame of paper tape (level i at bit i - 1) or of magnetic tape (parity at bit 6) passes the connected reader
  (spec/48_external_equipment.md R357, R362) -/
  | frame (x : ChanId) (f : BitVec 8)
  /-- the end of record check character of a magnetic tape passes the connected unit
  (spec/48_external_equipment.md R362) -/
  | check (x : ChanId) (f : BitVec 7)
  /-- the connected card reader sends a word of the card in its memory (spec/48_external_equipment.md R368) -/
  | unload (x : ChanId)
  /-- the mechanism of the equipment numbered `n`, which is cabled, now stands as in `d`: `Event.equipment`, where it
  falls inside an instruction (spec/48_external_equipment.md R365, R369) -/
  | mechanism (x : ChanId) (n : BitVec 3) (d : Device)
deriving DecidableEq, Repr

/-- What the world does between two instructions (log 8). -/
inductive Event where
  /-- the computer executes its next instruction -/
  | run
  /-- the computer executes its next instruction, and the read of its program step shows a parity error
  (spec/60_exceptions.md R397) -/
  | runParity
  /-- one event of a channel -/
  | channel (e : ChannelEvent)
  /-- the channel events that fall at each of the coming points inside instructions: before a storage reference, before
  a fetched step executes, before a sampling point (spec/20_memory.md R70; log 8) -/
  | references (batches : List (List ChannelEvent))
  /-- a tick of the power line (spec/60_exceptions.md R395) -/
  | lineTick
  /-- the Manual Interrupt switch (R394) -/
  | manualInterrupt
  /-- a parity error on an operand (R396) -/
  | operandParity
  /-- a parity error on a channel's output word (R391, R396) -/
  | outputParity (x : ChanId)
  /-- a parity error on a 12-bit data byte of a channel (R391) -/
  | byteParity (x : ChanId)
  /-- the next connect or function code sent will suffer a transmission parity error (R391) -/
  | codeParity
  /-- the Go switch (spec/44_jumps_stops.md R252) -/
  | go
  /-- the Restart switch (spec/70_reset_and_hazards.md R423) -/
  | restart
  /-- the Auto Load switch with its channel, connect code and function code (R424) -/
  | autoLoad (x : ChanId) (connect function : BitVec 12)
  /-- the System Active switch goes on (R422) -/
  | systemOn
  /-- the System Active switch goes off (R422) -/
  | systemOff
  /-- "a manual internal master clear" (R420), a control of its own (log 5) -/
  | internalClear
  /-- a Selective Jump switch (spec/10_state.md R39) -/
  | jumpSwitch (k : Switch) (on : Bool)
  /-- a Stop switch of the maintenance panel -/
  | stopSwitch (k : Switch) (on : Bool)
  /-- the Maintenance Mode switch -/
  | maintenance (on : Bool)
  /-- the console's End-of-Record switch (spec/46_input_output.md R307) -/
  | endOfRecordSwitch
  /-- the mechanism of the equipment numbered `n` on channel `x` now stands as in `d`
  (spec/48_external_equipment.md R369; log 29); or a control of this kind is cabled there, where there was none, as one
  of equipment `shared` of this machine if that is given -/
  | equipment (x : ChanId) (n : BitVec 3) (shared : Option Nat) (d : Device)
  /-- power is applied to the equipment: its Power On MC (spec/48_external_equipment.md R352, R359, R365) -/
  | powerOn (x : ChanId) (n : BitVec 3)
  /-- the equipment is taken off its channel -/
  | detach (x : ChanId) (n : BitVec 3)
deriving DecidableEq, Repr

/-- What stops the machine. -/
inductive Fault where
  /-- An indirect-address chain that never reaches a designator other than 7: the instruction never finishes
  (spec/93_implementation_defined.md U14). Raised by the operand resolution. Safe. -/
  | indirectLoop
  /-- A reference to an address with bit 14 set where 16,384 words are installed (spec/20_memory.md R62). Raised by
  every storage reference. Safe. -/
  | storageNotInstalled
deriving DecidableEq, Repr

/-- What the spec leaves without a meaning. Every one is safe: the model stops and proves nothing further. -/
inductive Refusal where
  /-- An instruction that has no meaning in this model. Raised by `exec`. -/
  | notModelled (mnemonic : String)
  /-- An encoding the source neither defines nor lists as illegal (spec/30_encoding.md R106, R107). Raised by `step`. -/
  | unlistedCode (r : DecodeReject)
  /-- ATI with b = 0 or 7, "undefined and should not be used" (spec/40_transmission.md R147). -/
  | atiDesignator
  /-- LDC or STC with v = 0 or 7 (spec/45_character_internal.md R260). -/
  | characterDesignator
  /-- LDC or STC with a character position that is not one of the eight (spec/45_character_internal.md R260). -/
  | characterPosition
  /-- INF with an operand code not in its table (spec/45_character_internal.md R276). -/
  | functionCode
  /-- SEN with an operand code not in its table (spec/45_character_internal.md R281). -/
  | senseCode
  /-- A channel that is not installed, or x = 4 to 7 (spec/46_input_output.md R300). -/
  | channelNotInstalled
  /-- IJP or a search with its index register holding 77777 (spec/93_implementation_defined.md U10). -/
  | negativeZeroIndex
  /-- AUG with a t designator over an instruction for which it is not checked
  (spec/45_character_internal.md R285, R286). -/
  | augmentDesignator
  /-- AUG with v other than 0 over IAQ or ATI (spec/45_character_internal.md R284). -/
  | augmentAddress
  /-- AUG with v = 7 fetching a word whose bits 17..15 are not zero (spec/45_character_internal.md R284). -/
  | augmentIndirect
  /-- An interrupt exit point whose upper instruction is not a taken normal jump (spec/60_exceptions.md R379). -/
  | exitNotJump
  /-- An Auto Load whose connect or function code is rejected (spec/70_reset_and_hazards.md R424). -/
  | autoLoadRejected
deriving DecidableEq, Repr


/-- The machine. -/
structure State where
  /-- A register (spec/10_state.md R20) -/
  a : Word
  /-- Q register (R21) -/
  q : Word
  /-- B1 to B6 (R23) -/
  b : IndexRegs
  /-- P, the program address counter (R24) -/
  p : Addr
  /-- Upper Instruction and Lower Instruction flip-flops (R27) -/
  half : Half
  /-- U, the program control register (R25) -/
  u : Word
  /-- the model's own: U holds the step whose instruction at `half` is pending, so that the step is not read again
  (spec/30_encoding.md R101; log 7) -/
  uHeld : Bool
  /-- the augment designators t (R36) -/
  aug : Aug
  /-- the flip-flops of the Interrupt register (R28, R35; bits 30 to 33 are lines and have none, log 21) -/
  intr : Word
  /-- Interrupt Mask register (R29) -/
  mask : Word
  /-- Interrupt Active and the flip-flops of Categories I and II (R31 to R33, R40) -/
  ctl : IntCtl
  /-- Upper Bounds register (R34) -/
  bu : BitVec 8
  /-- Lower Bounds register (R34) -/
  bl : BitVec 8
  /-- the computer is executing program instructions (R37) -/
  running : Bool
  /-- stopped inside an SLS or SRJ whose jump is still to be made (R37) -/
  slsStopped : Bool
  /-- the I/O channels (R38) -/
  chans : Channels
  /-- core storage (spec/20_memory.md R60, R63) -/
  mem : Memory
  /-- the operator's switches (R39) -/
  console : Console
  /-- the equipments cabled to the channels, with the state of their controls (spec/48_external_equipment.md) -/
  equip : List Attached
  /-- the channel an Auto Load is reading on (spec/70_reset_and_hazards.md R424) -/
  autoLoading : Option ChanId
  /-- the next connect or function code sent suffers a transmission parity error (spec/60_exceptions.md R391; log 25) -/
  codeParity : Bool
  /-- what the world does next, in order (log 8) -/
  env : List Event
  /-- for each coming point inside an instruction (before a storage reference of the computer, before a fetched step
  executes, before a sampling point), the channel events that fall there (spec/20_memory.md R70; log 8) -/
  inter : List (List ChannelEvent)
  /-- what the installation fixes (spec/00_scope.md R5) -/
  cfg : Config
  /-- picks the next free value (log 9) -/
  freeCount : Nat
deriving DecidableEq, Repr

/-- The machine right after the System Active switch goes from Off to On: internal and external master clear, the
computer stopped (R42, R420 to R422). The values of log 4 stand where the spec gives none. -/
def State.reset : State :=
  { a := 0, q := 0, b := .zero, p := 0, half := .upper, u := 0, uHeld := false, aug := .none, intr := 0,
    mask := 0, ctl := .clear, bu := 0, bl := 0, running := false, slsStopped := false, chans := .clear,
    mem := [], console := .initial, equip := [], autoLoading := none, codeParity := false, env := [],
    inter := [], cfg := .standard, freeCount := 0 }

/-- Write `a`. -/
def State.setA (s : State) (v : Word) : State := { s with a := v }

/-- Write `q`. -/
def State.setQ (s : State) (v : Word) : State := { s with q := v }

/-- Write `b`. -/
def State.setB (s : State) (v : IndexRegs) : State := { s with b := v }

/-- Write `p`. -/
def State.setP (s : State) (v : Addr) : State := { s with p := v }

/-- Write `half`. -/
def State.setHalf (s : State) (v : Half) : State := { s with half := v }

/-- Write `u`. -/
def State.setU (s : State) (v : Word) : State := { s with u := v }

/-- Write `uHeld`. -/
def State.setUHeld (s : State) (v : Bool) : State := { s with uHeld := v }

/-- Write `aug`. -/
def State.setAug (s : State) (v : Aug) : State := { s with aug := v }

/-- Write `intr`. -/
def State.setIntr (s : State) (v : Word) : State := { s with intr := v }

/-- Write `mask`. -/
def State.setMask (s : State) (v : Word) : State := { s with mask := v }

/-- Write `ctl`. -/
def State.setCtl (s : State) (v : IntCtl) : State := { s with ctl := v }

/-- Write `bu`. -/
def State.setBu (s : State) (v : BitVec 8) : State := { s with bu := v }

/-- Write `bl`. -/
def State.setBl (s : State) (v : BitVec 8) : State := { s with bl := v }

/-- Write `running`. -/
def State.setRunning (s : State) (v : Bool) : State := { s with running := v }

/-- Write `slsStopped`. -/
def State.setSlsStopped (s : State) (v : Bool) : State := { s with slsStopped := v }

/-- Write `chans`. -/
def State.setChans (s : State) (v : Channels) : State := { s with chans := v }

/-- Write `mem`. -/
def State.setMem (s : State) (v : Memory) : State := { s with mem := v }

/-- Write `console`. -/
def State.setConsole (s : State) (v : Console) : State := { s with console := v }

/-- Write `equip`. -/
def State.setEquip (s : State) (v : List Attached) : State := { s with equip := v }

/-- Write `autoLoading`. -/
def State.setAutoLoading (s : State) (v : Option ChanId) : State := { s with autoLoading := v }

/-- Write `codeParity`. -/
def State.setCodeParity (s : State) (v : Bool) : State := { s with codeParity := v }

/-- Write `env`. -/
def State.setEnv (s : State) (v : List Event) : State := { s with env := v }

/-- Write `inter`. -/
def State.setInter (s : State) (v : List (List ChannelEvent)) : State := { s with inter := v }

/-- Write `cfg`. -/
def State.setCfg (s : State) (v : Config) : State := { s with cfg := v }

/-- Write `freeCount`. -/
def State.setFreeCount (s : State) (v : Nat) : State := { s with freeCount := v }

end Sys2Proof.Machine
end

