-- ==== Sys2Proof/Machine/Channel.lean ====
section
/-! DEFINITION. The I/O channels: their registers, the events of a channel as an agent of its own, and its clears
(spec/46_input_output.md R300 to R318, spec/70_reset_and_hazards.md R421). -/

namespace Sys2Proof.Machine

/-- Why an operation of the machine stops. -/
inductive Stop where
  | fault (r : Fault)
  | refused (r : Refusal)
deriving DecidableEq, Repr

/-- An operation that gives a value or stops. -/
abbrev Res (α : Type) := Except Stop α

/-- The number of a channel. -/
def ChanId.index : ChanId → Nat
  | .c0 => 0
  | .c1 => 1
  | .c2 => 2
  | .c3 => 3

/-- The channel of a channel digit; 4 to 7 name none (R300). -/
def ChanId.ofDigit (x : BitVec 3) : Option ChanId :=
  match x.toNat with
  | 0 => some .c0
  | 1 => some .c1
  | 2 => some .c2
  | 3 => some .c3
  | _ => none

/-- Channel x. -/
def Channels.get (cs : Channels) : ChanId → Channel
  | .c0 => cs.c0
  | .c1 => cs.c1
  | .c2 => cs.c2
  | .c3 => cs.c3

/-- Write channel x. -/
def Channels.put (cs : Channels) (x : ChanId) (c : Channel) : Channels :=
  match x with
  | .c0 => { cs with c0 := c }
  | .c1 => { cs with c1 := c }
  | .c2 => { cs with c2 := c }
  | .c3 => { cs with c3 := c }

/-- Channel x of the machine. -/
def State.chan (s : State) (x : ChanId) : Channel := s.chans.get x

/-- Write channel x of the machine. -/
def State.setChan (s : State) (x : ChanId) (c : Channel) : State := s.setChans (s.chans.put x c)

/-- Channel x is installed (spec/00_scope.md R5). -/
def State.chanInstalled (s : State) (x : ChanId) : Bool := decide (x.index < s.cfg.channels)

/-- The word of one bit. -/
def bitWord (n : Nat) : Word := 1#48 <<< n

/-- `Interrupt[n] <- 1` (spec/60_exceptions.md R376). -/
def State.setFault (s : State) (n : Nat) : State := s.setIntr (s.intr ||| bitWord n)

/-- `Interrupt[n] <- 0`. -/
def State.clearFault (s : State) (n : Nat) : State := s.setIntr (s.intr &&& ~~~(bitWord n))

/-- `Status[x]` (R308); a channel that is not installed has no lines. -/
def State.status (s : State) (x : ChanId) : BitVec 12 := if s.chanInstalled x then statusLines x s.equip else 0

/-- `IntLines[x]` (R316); a channel that is not installed has no lines (spec/93_implementation_defined.md U6). -/
def State.intLines (s : State) (x : ChanId) : BitVec 8 := if s.chanInstalled x then interruptLines x s.equip else 0

/-- A reference to this address names a word that is installed (spec/20_memory.md R62). -/
def State.installed (s : State) (a : Addr) : Bool := !(s.cfg.smallStorage && a.getLsbD 14)

/-- The word of four bytes (R318). -/
def bytesWord (b1 b2 b3 b4 : BitVec 12) : Word := b1 ++ b2 ++ b3 ++ b4

/-- The start of the computer once an Auto Load's channel has gone inactive
(spec/70_reset_and_hazards.md R424; log 27). -/
def State.autoStart (s : State) (x : ChanId) : State :=
  if s.autoLoading = some x then
    ((((s.setAutoLoading none).setP s.cfg.autoLoadEntry.1).setHalf s.cfg.autoLoadEntry.2).setUHeld false).setRunning
      true
  else s

/-- `ChannelHalt(x)` (R307, R315): Channel Busy drops, which the equipment sees. -/
def State.channelHalt (s : State) (x : ChanId) : State :=
  ((((s.setChan x { s.chan x with active := false }).setFault (10 + x.index)).setEquip
    (onChannel x (fun e => e.device.endTransfer (s.chan x).dir) s.equip))).autoStart x

/-- The channel's count and address after one word (R307, R314). -/
def Channel.count (c : Channel) : Channel := { c with wc := c.wc - 1, ca := c.ca + 1 }

/-- A word arrives on an active Read channel (R307). The channel's references are not bounds-checked (R73). -/
def State.channelStore (s : State) (x : ChanId) (w : Word) : Res State :=
  if s.installed (s.chan x).ca then
    .ok ((s.setMem (s.mem.writeWord (s.chan x).ca w)).setChan x (s.chan x).count)
  else .error (.fault .storageNotInstalled)

/-- Some connected equipment of the channel takes no data now: the channel waits. -/
def State.writeBlocked (s : State) (x : ChanId) : Bool :=
  s.equip.any (fun e => decide (e.channel = x) && e.device.connected && e.device.blocks)

/-- An active Write channel sends a word (R307). -/
def State.channelSend (s : State) (x : ChanId) : Res State :=
  let w := s.mem.readWord (s.chan x).ca
  if s.installed (s.chan x).ca then
    .ok ((s.setEquip (onChannel x (fun e => e.device.receive w) s.equip)).setChan x
      { (s.chan x).count with sent := (s.chan x).sent ++ wordBytes w })
  else .error (.fault .storageNotInstalled)

/-- The equipment numbered `n` on channel x is a typewriter that is connected. -/
def State.typewriterOn (s : State) (x : ChanId) (n : BitVec 3) : Bool :=
  s.equip.any (fun e =>
    e.isAt x n && e.device.typewriterConnected)

/-- No equipment that makes its words or its End of Record from its own medium is connected to the channel
(log 26). -/
def State.inputFree (s : State) (x : ChanId) (free : Device → Bool) : Bool :=
  s.equip.all (fun e => !(decide (e.channel = x) && e.device.connected) || free e.device)

/-- The channel performs a Read. -/
def State.reading (s : State) (x : ChanId) : Bool := (s.chan x).active && (s.chan x).dir == .read

/-- "all other switches except power control will be locked out" (spec/70_reset_and_hazards.md R422). -/
def Console.locked (c : Console) : Bool := !c.systemActive && !c.maintenance

/-- The End of Record of the console's switch at one channel: it ends the Read of a connected typewriter (R307;
spec/48_external_equipment.md R346). -/
def State.endOfRecordAt (s : State) (x : ChanId) : State :=
  if s.reading x && s.equip.any (fun e => decide (e.channel = x) && e.device.typewriterConnected) then s.channelHalt x
  else s

/-- The channel performs a Write. -/
def State.writing (s : State) (x : ChanId) : Bool := (s.chan x).active && (s.chan x).dir == .write

/-- What the equipments of a channel supply at one event of their mechanisms: the first word or End of Record. -/
def supplied (x : ChanId) (f : Device → Supply × Device) : List Attached → Supply
  | [] => .none
  | e :: es =>
    if e.channel = x then
      match (f e.device).1 with
      | .none => supplied x f es
      | r => r
    else supplied x f es

/-- The equipments of a channel after one event of their mechanisms. -/
def State.moved (s : State) (x : ChanId) (f : Device → Supply × Device) : State :=
  s.setEquip (onChannel x (fun e => (f e.device).2) s.equip)

/-- One event of a mechanism on a channel: the control takes it, and a Read stores a word or ends. With a zero count the
Read ends first, and the mechanism moves as it does with no Read (R307). -/
def State.supply (s : State) (x : ChanId) (f : Device → Supply × Device) : Res State :=
  if s.reading x then
    if (s.chan x).wc = 0 then .ok ((s.channelHalt x).moved x f)
    else
      match supplied x f s.equip with
      | .none => .ok (s.moved x f)
      | .word w => (s.moved x f).channelStore x w
      | .endOfRecord => .ok ((s.moved x f).channelHalt x)
  else .ok (s.moved x f)

/-- The channel of an event. -/
def ChannelEvent.chan : ChannelEvent → ChanId
  | .deliver x _ _ _ _ => x
  | .endOfRecord x => x
  | .endOfRecordSwitch x => x
  | .take x => x
  | .key x _ _ => x
  | .frame x _ => x
  | .check x _ => x
  | .unload x => x
  | .mechanism x _ _ => x

/-- A key of the typewriter (spec/48_external_equipment.md R346): it types, and a Read stores its code. -/
def State.pressKey (s : State) (x : ChanId) (n : BitVec 3) (code : BitVec 6) : Res State :=
  let t :=
    s.setEquip (onChannel x (fun e => if e.number = n then e.device.key code (s.writing x) else e.device) s.equip)
  if s.reading x then
    if (s.chan x).wc = 0 then .ok (t.channelHalt x) else t.channelStore x (code.setWidth 48)
  else .ok t

/-- The equipment event: the mechanism's change or a new cable; a coupler whose other division stops writing ends this
channel's Read (spec/48_external_equipment.md R365). -/
def State.equipmentEvent (s : State) (x : ChanId) (n : BitVec 3) (k : Option Nat) (d : Device) : State :=
  let t := s.setEquip (replaceEquipment x n k d s.equip)
  if s.equip.any (fun e => e.isAt x n && e.device.writeDrops d) && s.reading x then t.channelHalt x else t

/-- One event of an installed channel (R307). An event that is not enabled changes nothing: the channel is not active,
or moves data the other way, or its equipment does not work so. -/
def installedEvent (e : ChannelEvent) (s : State) : Res State :=
  match e with
  | .deliver x b1 b2 b3 b4 =>
    if s.reading x then
      if (s.chan x).wc = 0 then .ok (s.channelHalt x)
      else if s.inputFree x Device.freeInput then s.channelStore x (bytesWord b1 b2 b3 b4)
      else .ok s
    else .ok s
  | .endOfRecord x => if s.reading x && s.inputFree x Device.ends then .ok (s.channelHalt x) else .ok s
  | .endOfRecordSwitch x => .ok (if s.console.locked then s else s.endOfRecordAt x)
  | .take x =>
    if (s.chan x).active then
      if (s.chan x).wc = 0 then .ok (s.channelHalt x)
      else
        match (s.chan x).dir with
        | .read => .ok s
        | .write => if s.writeBlocked x then .ok s else s.channelSend x
    else .ok s
  | .key x n code => if s.typewriterOn x n then s.pressKey x n code else .ok s
  | .frame x f => s.supply x (fun d => d.frame f)
  | .check x f => s.supply x (fun d => d.check f)
  | .unload x => s.supply x (fun d => d.unload)
  | .mechanism x n d => .ok (if s.equip.any (fun e => e.isAt x n) then s.equipmentEvent x n none d else s)

/-- One event of a channel; one that is not installed has none (spec/93_implementation_defined.md U6). -/
def channelEvent (e : ChannelEvent) (s : State) : Res State :=
  if s.chanInstalled e.chan then installedEvent e s else .ok s

/-- A batch of channel events, in order. -/
def channelEvents : List ChannelEvent → State → Res State
  | [], s => .ok s
  | e :: es, s =>
    match channelEvent e s with
    | .ok t => channelEvents es t
    | .error r => .error r

/-- What a clear does to one channel, with `f` the clear of its equipments (R311; spec/70_reset_and_hazards.md R421). The
equipments see an operation's end before their clear: that a card punch so punches a card in part loaded, and a tape
control writes the check character of its record, is THE MODEL'S CHOICE (log 31). -/
def State.clearWith (f : Device → Device) (s : State) (x : ChanId) : State :=
  let s1 := s.setChan x { s.chan x with conn := none, wc := 0, ca := 0 }
  let s2 := if (s.chan x).active then s1.channelHalt x else s1
  (s2.clearFault (20 + x.index)).setEquip (onChannel x (fun e => f e.device) s2.equip)

/-- CLCH (R311). -/
def State.clearChannel (s : State) (x : ChanId) : State := s.clearWith Device.clear x

/-- `ExternalMasterClear`: every installed channel (spec/70_reset_and_hazards.md R421). -/
def State.externalMasterClear (s : State) : State :=
  [ChanId.c0, .c1, .c2, .c3].foldl (fun t x => if t.chanInstalled x then t.clearWith Device.masterClear x else t) s

end Sys2Proof.Machine
end

