-- ==== Sys2Proof/Machine/Ops.lean ====
section
/-! DEFINITION. The named operations over storage, registers and the instruction pointer: storage references, the
bounds check, jumps, taking an interrupt and leaving it, and the end of an instruction
(spec/20_memory.md, spec/30_encoding.md R101 to R103, spec/60_exceptions.md R370 to R393). -/

namespace Sys2Proof.Machine

/-! ### Registers -/

/-- An index register. -/
def IndexRegs.get (b : IndexRegs) : Ix → Addr
  | .b1 => b.b1
  | .b2 => b.b2
  | .b3 => b.b3
  | .b4 => b.b4
  | .b5 => b.b5
  | .b6 => b.b6

/-- Write an index register. -/
def IndexRegs.put (b : IndexRegs) (r : Ix) (v : Addr) : IndexRegs :=
  match r with
  | .b1 => { b with b1 := v }
  | .b2 => { b with b2 := v }
  | .b3 => { b with b3 := v }
  | .b4 => { b with b4 := v }
  | .b5 => { b with b5 := v }
  | .b6 => { b with b6 := v }

/-- An index register of the machine. -/
def State.ix (s : State) (r : Ix) : Addr := s.b.get r

/-- Write an index register of the machine. -/
def State.setIx (s : State) (r : Ix) (v : Addr) : State := s.setB (s.b.put r v)

/-- Bits 14..0 of a word, its lower address LA (R60). -/
def lowerAddr (w : Word) : Addr := w.extractLsb' 0 15

/-- Bits 38..24 of a word, its upper address UA (R60). -/
def upperAddr (w : Word) : Addr := w.extractLsb' 24 15

/-- A word with UA replaced. -/
def setUpperAddr (w : Word) (v : Addr) : Word := setField w 24 v

/-- A word with LA replaced. -/
def setLowerAddr (w : Word) (v : Addr) : Word := setField w 0 v

/-- A free word: the source does not say which (log 9). -/
def State.freeWord (s : State) : Word × State := (Config.freeWord s.freeCount, s.setFreeCount (s.freeCount + 1))

/-- A free choice of two (log 9). -/
def State.freeBit (s : State) : Bool × State := (Config.freeBit s.freeCount, s.setFreeCount (s.freeCount + 1))

/-! ### The Interrupt register (spec/60_exceptions.md R372) -/

/-- The bits that have a flip-flop. The others of the register read 0, but for bits 30 to 33, which are lines. -/
def flipFlops : Word :=
  [1, 2, 3, 4, 5, 10, 11, 12, 13, 20, 21, 22, 23, 42, 43, 44, 45, 46].foldl (fun w n => w ||| bitWord n) 0

/-- Bits 30 + x: the OR of the channel's interrupt lines at every instant (spec/46_input_output.md R316). -/
def State.externalLines (s : State) : Word :=
  [ChanId.c0, .c1, .c2, .c3].foldl
    (fun w x => if s.intLines x = 0 then w else w ||| bitWord (30 + x.index)) 0

/-- The Interrupt register as CIS reads it. -/
def State.interrupt (s : State) : Word := (s.intr &&& flipFlops) ||| s.externalLines

/-- The Product register (R375). -/
def State.product (s : State) : Word := s.interrupt &&& s.mask

/-! ### Storage references -/

/-- A point of an instruction at which channel events may fall: those of the next batch happen. Such a point stands
before every storage reference of the computer, before a fetched step executes and before a sampling point, so the
channels' references interleave with the computer's in any order (spec/20_memory.md R70; log 8). -/
def reference (s : State) : Res State :=
  match s.inter with
  | [] => .ok s
  | es :: rest => channelEvents es (s.setInter rest)

/-- `MemRead` by the computer (R63). -/
def readMem (a : Addr) (s : State) : Res (Word × State) :=
  match reference s with
  | .ok t => if t.installed a then .ok (t.mem.readWord a, t) else .error (.fault .storageNotInstalled)
  | .error r => .error r

/-- `bounds_in_effect` (spec/60_exceptions.md R393). -/
def State.boundsInEffect (s : State) : Bool := s.ctl.active && s.mask.getLsbD 42 && !s.ctl.lock1

/-- `in_bounds(S)`: bits 14..7 of the address against the bounds registers. -/
def State.inBounds (s : State) (a : Addr) : Bool :=
  let block : BitVec 8 := a.extractLsb' 7 8
  decide (s.bl.toNat ≤ block.toNat) && (decide (s.bu = 0) || decide (block.toNat < s.bu.toNat))

/-- `out_of_bounds(S)`. -/
def State.outOfBounds (s : State) (a : Addr) : Bool := s.boundsInEffect && !s.inBounds a

/-- One reference that replaces a word by a function of itself: a write is one of these, and so is a partial store
(R64, R65). Out of bounds it is not performed and sets bit 42. -/
def modifyMem (a : Addr) (f : Word → Word) (s : State) : Res State :=
  if s.outOfBounds a then .ok (s.setFault 42)
  else
    match reference s with
    | .ok t =>
      if t.installed a then .ok (t.setMem (t.mem.writeWord a (f (t.mem.readWord a))))
      else .error (.fault .storageNotInstalled)
    | .error r => .error r

/-- `MemWrite` (R64). -/
def writeMem (a : Addr) (w : Word) (s : State) : Res State := modifyMem a (fun _ => w) s

/-- `MemWritePart`: the bits from `lo` up (R65). -/
def writePart {len : Nat} (a : Addr) (lo : Nat) (v : BitVec len) (s : State) : Res State :=
  modifyMem a (fun w => setField w lo v) s

/-! ### The instruction pointer (spec/30_encoding.md R101 to R103) -/

/-- The upper half of the next step: what follows a lower instruction, a 48-bit one or a skip. -/
def State.nextStep (s : State) : State := ((s.setP (s.p + 1)).setHalf .upper).setUHeld false

/-- The next instruction in sequence. The lower instruction executes from U (spec/10_state.md R25). -/
def State.advance (s : State) : State :=
  match s.half with
  | .upper => (s.setHalf .lower).setUHeld true
  | .lower => s.nextStep

/-- `skip_lower`: in the upper half, the step that follows; in the lower half "no skip is possible" (R103). -/
def State.skipLower (s : State) : State := s.nextStep

/-- The pointer at a half of a step, to be read from storage. -/
def State.goto (s : State) (a : Addr) (h : Half) : State := ((s.setP a).setHalf h).setUHeld false

/-- `NormalJump` (spec/44_jumps_stops.md R241, R253); `seq` is the state of the jump not taken. -/
def normalJump (a : Addr) (seq s : State) : State :=
  if s.outOfBounds a then seq.setFault 42 else s.goto a .upper

/-- `ReturnJump` (R242, R253). -/
def returnJump (a : Addr) (s : State) : Res State :=
  if s.outOfBounds a then .ok (s.advance.setFault 42)
  else
    match writePart a 24 (s.p + 1) s with
    | .ok t => .ok (t.goto a .lower)
    | .error r => .error r

/-! ### Taking an interrupt and leaving it (spec/60_exceptions.md R378 to R382) -/

/-- The three categories; Category II with the operation that raised it. -/
inductive Category where
  | one
  | two (k : FpKind)
  | three
deriving DecidableEq, Repr

/-- `Cat2Addr`: the address equal to the operation code, 00030 to 00033 (R380). -/
def fixedLocation : FpKind → Addr
  | .add => 0o30
  | .sub => 0o31
  | .mul => 0o32
  | .div => 0o33

/-- The hardware's return jump: the address goes into UA of the fixed location, which is not bounds-checked, and the
routine starts at its lower half (R378, R382; spec/70_reset_and_hazards.md R423). -/
def State.hardwareReturnJump (s : State) (fixed ret : Addr) : State :=
  (s.setMem (s.mem.writeWord fixed (setUpperAddr (s.mem.readWord fixed) ret))).goto fixed .lower

/-- What an entry does, once its storage reference is made. -/
def State.enter (s : State) : Category → State
  | .one =>
    (s.setCtl { s.ctl with lock1 := true, mode1 := true, exit1 := decide (s.half = .lower) }).hardwareReturnJump
      0o7 s.p
  | .two k =>
    let t := s.advance
    (t.setCtl { t.ctl with mode2 := true, exit2 := decide (t.half = .lower), cat2Addr := fixedLocation k }).hardwareReturnJump
      (fixedLocation k) t.p
  | .three => s.hardwareReturnJump 0o20 (s.p + 1)

/-- TAKING AN INTERRUPT: one shared operation for the three categories (R378, R380, R382). -/
def takeInterrupt (c : Category) (s : State) : Res State :=
  match reference s with
  | .ok t => .ok (t.enter c)
  | .error r => .error r

/-- A Category I interrupt is to be taken at a sampling point (R377). -/
def State.pending (s : State) : Bool := s.ctl.active && !s.ctl.lock1 && decide (s.product ≠ 0)

/-- `sample_interrupts` (R377). -/
def sample (s : State) : Res State := if s.pending then takeInterrupt .one s else .ok s

/-- `exit_check`: a step is entered in the upper half (R379, R381). -/
def State.exitCheck (s : State) : State :=
  if s.ctl.mode1 = true ∧ s.p = 0o7#15 then
    s.setCtl { s.ctl with lock1 := false, mode1 := false, exitSel := s.ctl.exit1, exiting := true }
  else if s.ctl.mode2 = true ∧ s.p = s.ctl.cat2Addr then
    s.setCtl { s.ctl with mode2 := false, exitSel := s.ctl.exit2, exiting := true }
  else s

/-- `exit_land`: RETURNING FROM AN INTERRUPT. The exit's jump lands in the half that the Exit flip-flop gives
(R379, R381). -/
def State.exitLand (s : State) : State :=
  (s.setHalf (if s.ctl.exitSel then .lower else .upper)).setCtl { s.ctl with exiting := false }

/-! ### The end of an instruction -/

/-- The augment designators are cleared when the lower instruction completes (spec/10_state.md R36). -/
def State.endAug (h : Half) (s : State) : State :=
  match h with
  | .upper => s
  | .lower => s.setAug .none

/-- The outcome of an operation. -/
def Res.outcome : Res State → Host.Outcome State Fault Refusal
  | .ok s => .next s
  | .error (.fault r) => .fault r
  | .error (.refused r) => .refused r

/-- The exit point in progress at this instruction (R379). -/
def State.atExit (s : State) : Bool := s.ctl.exiting && decide (s.half = .upper)

/-- What follows every instruction: the designators' end, and the sampling point after the channel events that fall
between the instruction's last reference and it (R377; spec/20_memory.md R70). -/
def complete (h : Half) (s : State) : Res State :=
  match reference (s.endAug h) with
  | .ok t => sample t
  | .error r => .error r

/-- Every instruction but the five normal jumps ends here; none of them may stand at an exit point (R379). -/
def finish (before : State) (r : Res State) : Host.Outcome State Fault Refusal :=
  Res.outcome
    (match r with
      | .ok t => if before.atExit then .error (.refused .exitNotJump) else complete before.half t
      | .error e => .error e)

/-- The normal jumps end here: at an exit point a taken one lands, any other is refused (R379). -/
def finishJump (before : State) (taken : Bool) (r : Res State) : Host.Outcome State Fault Refusal :=
  Res.outcome
    (match r with
      | .ok t =>
        if before.atExit then
          if taken then complete before.half t.exitLand else .error (.refused .exitNotJump)
        else complete before.half t
      | .error e => .error e)

/-- An instruction without a continuation of its own: its effect, then the next instruction in sequence. -/
def finishSeq (before : State) (r : Res State) : Host.Outcome State Fault Refusal :=
  finish before
    (match r with
      | .ok t => .ok t.advance
      | .error e => .error e)

end Sys2Proof.Machine
end

