-- ==== Sys2Proof/Machine/Flags.lean ====
section
/-! DEFINITION. One's complement arithmetic and the faults it raises (spec/00_scope.md R11, R12,
spec/41_arithmetic.md R160 to R171, spec/60_exceptions.md R385 to R389). -/

namespace Sys2Proof.Machine

/-- `ocsub_N`: subtraction with end-around borrow (R12). -/
def ocsub {n : Nat} (x y : BitVec n) : BitVec n := if x.toNat < y.toNat then x - y - 1#n else x - y

/-- `ocadd_N` (R12). -/
def ocadd {n : Nat} (x y : BitVec n) : BitVec n := ocsub x (~~~y)

/-- `val_N`: the integer of a one's complement word; both zeros are 0 (R11). -/
def ocVal {n : Nat} (v : BitVec n) : Int := if v.msb then -((~~~v).toNat : Int) else (v.toNat : Int)

/-- `oc_N`: the one's complement word of an integer, 0 as +0 (R11). -/
def ocOf (n : Nat) (i : Int) : BitVec n := if i < 0 then ~~~(BitVec.ofNat n i.natAbs) else BitVec.ofNat n i.natAbs

/-- `sext_48` of a 15-bit operand (R11). -/
def sext48 (y : Addr) : Word := y.signExtend 48

/-- `mag`: -0 becomes +0 (spec/45_character_internal.md R285). -/
def mag (x : Word) : Word := if x.msb then ~~~x else x

/-- `add_overflows` (R161). -/
def addOverflows (x y : Word) : Bool := decide (2 ^ 47 ≤ (ocVal x + ocVal y).natAbs)

/-- `sub_overflows` (R161). -/
def subOverflows (x y : Word) : Bool := decide (2 ^ 47 ≤ (ocVal x - ocVal y).natAbs)

/-- A sum: on overflow bit 03 and a free word (R161; log 10). -/
def sum (x y : Word) (s : State) : Word × State :=
  if addOverflows x y then (s.setFault 3).freeWord else (ocadd x y, s)

/-- A difference: on overflow bit 03 and a free word (R161; log 10). -/
def difference (x y : Word) (s : State) : Word × State :=
  if subOverflows x y then (s.setFault 3).freeWord else (ocsub x y, s)

/-- A zero whose sign the source does not state: +0 or -0 (log 11). -/
def freeZero (n : Nat) (s : State) : BitVec n × State := ((if s.freeBit.1 then BitVec.allOnes n else 0#n), s.freeBit.2)

/-- The product of MUI, in QA (R164). -/
def multiply (x y : Word) (s : State) : BitVec 96 × State :=
  let p := ocVal x * ocVal y
  if p = 0 then freeZero 96 s else (ocOf 96 p, s)

/-- Q and A from the 96-bit QA (spec/10_state.md R22). -/
def State.setQA (s : State) (w : BitVec 96) : State := (s.setQ (w.extractLsb' 48 48)).setA (w.extractLsb' 0 48)

/-- The 96-bit QA. -/
def State.qa (s : State) : BitVec 96 := s.q ++ s.a

/-- The 96-bit AQ. -/
def State.aq (s : State) : BitVec 96 := s.a ++ s.q

/-- A and Q from the 96-bit AQ. -/
def State.setAQ (s : State) (w : BitVec 96) : State := (s.setA (w.extractLsb' 48 48)).setQ (w.extractLsb' 0 48)

/-- A divide fault: bit 02, A and Q free (R166; log 11). -/
def State.divideFault (s : State) : State :=
  let t := s.setFault 2
  let u := t.freeWord.2.setA t.freeWord.1
  u.freeWord.2.setQ u.freeWord.1

/-- DVI: QA by the divisor, the quotient truncated to A, the remainder to Q with the dividend's sign (R165). -/
def divide (d : Word) (s : State) : State :=
  let n := ocVal s.qa
  let q := n.tdiv (ocVal d)
  let r := n.tmod (ocVal d)
  if ocVal d = 0 then s.divideFault
  else if 2 ^ 47 ≤ q.natAbs then s.divideFault
  else
    let rem : Word := if r = 0 then (if s.qa.msb then BitVec.allOnes 48 else 0) else ocOf 48 r
    let quot := if q = 0 then freeZero 48 s else (ocOf 48 q, s)
    (quot.2.setA quot.1).setQ rem

/-- A floating point operation: A, Q and the three faults (R171, R386, R388, R389; log 12). -/
def floatingPoint (k : FpKind) (x : Word) (s : State) : State :=
  let r := Config.fp k s.a x s.aug.t0 s.aug.t1
  let s1 := (s.setA r.a).setQ r.q
  let s2 := if 0o1777 < r.exponent then s1.setFault 4 else s1
  let s3 := if r.exponent < -0o1777 then s2.setFault 5 else s2
  if k = .div ∧ Config.fpIsZero x = true then s3.setFault 2 else s3

/-- +0 or -0. -/
def isZero (x : Word) : Bool := decide (x = 0) || decide (x = BitVec.allOnes 48)

/-- `eq48`: the two zeros are one quantity (spec/43_replace_test_search.md R231). -/
def eq48 (x y : Word) : Bool := decide (x = y) || (isZero x && isZero y)

/-- `gt48`: the order of the patterns, +0 above -0 (R232). -/
def gt48 (x y : Word) : Bool := decide (y.toInt < x.toInt)

/-- The shift fault, bit 01: a count above 177 octal (R200). -/
def State.shiftFault (s : State) (k : Addr) : State := if 127 < k.toNat then s.setFault 1 else s

end Sys2Proof.Machine
end

