-- ==== Sys2Proof/Machine/Operands.lean ====
section
/-! DEFINITION. The operand forms: indirect addressing, index modification, the AUG designators, shift counts and
character positions (spec/30_encoding.md R97 to R100, spec/45_character_internal.md R260, R283 to R286). -/

namespace Sys2Proof.Machine

/-- The longest chain that can end: once no channel event falls between its reads, a chain that reads a location
twice reads it for ever (R98; log 13). -/
def State.chainLimit (s : State) : Nat := s.inter.length + 32769

/-- `Resolve` with a bound on its reads: the index register, if any, and the address (R98). -/
def resolveIn : Nat → Desig → Addr → State → Res ((Option Ix × Addr) × State)
  | _, .zero, m, s => .ok ((none, m), s)
  | _, .ix r, m, s => .ok ((some r, m), s)
  | 0, .seven, _, _ => .error (.fault .indirectLoop)
  | n + 1, .seven, m, s =>
    match readMem m s with
    | .ok (w, t) => resolveIn n (.ofBits (field w 15 3)) (lowerAddr w) t
    | .error r => .error r

/-- `Resolve` (R98). -/
def resolve (b : Desig) (m : Addr) (s : State) : Res ((Option Ix × Addr) × State) := resolveIn s.chainLimit b m s

/-- The contents of an index register, 0 where none is named. -/
def State.ixOf (s : State) : Option Ix → Addr
  | none => 0
  | some r => s.ix r

/-- Write an index register; nothing is written where none is named. -/
def State.setIxOf (s : State) (r : Option Ix) (v : Addr) : State :=
  match r with
  | none => s
  | some r => s.setIx r v

/-- `Modify` (R99). -/
def State.modify (s : State) (r : Option Ix) (m : Addr) : Addr :=
  match r with
  | none => m
  | some r => ocadd m (s.ix r)

/-- `EA`: M, Y or K (R100). -/
def effective (b : Desig) (m : Addr) (s : State) : Res (Addr × State) :=
  match resolve b m s with
  | .ok ((r, n), t) => .ok (t.modify r n, t)
  | .error e => .error e

/-- The 48-bit operand at M. -/
def operand (b : Desig) (m : Addr) (s : State) : Res (Word × State) :=
  match effective b m s with
  | .ok (a, t) => readMem a t
  | .error e => .error e

/-- The operand with the AUG designator t2 applied (spec/45_character_internal.md R285). -/
def State.opnd (s : State) (x : Word) : Word := if s.aug.t2 then mag x else x

/-- A shift count: bits 6..0 of K (spec/42_logical_shift.md R200). -/
def shiftCount (k : Addr) : Nat := (field k 0 7).toNat

/-- `char_pos` (spec/45_character_internal.md R260): the lowest bit of the portion. -/
def charPos (v : Desig) (s : State) : Res Nat :=
  match v with
  | .zero => .error (.refused .characterDesignator)
  | .seven => .error (.refused .characterDesignator)
  | .ix r =>
    if [0, 6, 12, 18, 24, 30, 36, 42].contains (s.ix r).toNat then .ok (s.ix r).toNat
    else .error (.refused .characterPosition)

/-- The function code of a 24-bit instruction. -/
def functionCode (h : HalfWord) : Nat := (field h 18 6).toNat

/-- The lower instructions for which AUG's t2 is checked, and those for which t1 and t0 are
(spec/45_character_internal.md R286). -/
def augT2Codes : List Nat :=
  [0o12, 0o16, 0o20, 0o21, 0o14, 0o15, 0o24, 0o25, 0o30, 0o31, 0o32, 0o33]

/-- The floating point codes. -/
def augT10Codes : List Nat := [0o30, 0o31, 0o32, 0o33]

/-- A t designator may stand over this function code. -/
def augAllowed (f : Nat) (t2 t1 t0 : Bool) : Bool :=
  (!t2 || augT2Codes.contains f) && (!(t1 || t0) || augT10Codes.contains f)

/-- Apply AUG's v to the address portion of the lower instruction in U (R284). Which 24-bit instructions the source's
"most" excludes is not said: that v changes bits 14..0 of every one, so also of CIS, CPR, AUG, EUB and ELB, which have no
m, y or k there, is THE MODEL'S CHOICE (log 18). -/
def augAddress (v : Desig) (s : State) : Res State :=
  match v with
  | .zero => .ok s
  | .ix r =>
    if functionCode (field s.u 0 24) = 0 then .error (.refused .augmentAddress)
    else .ok (s.setU (setLowerAddr s.u (ocadd (lowerAddr s.u) (s.ix r))))
  | .seven =>
    if functionCode (field s.u 0 24) = 0 then .error (.refused .augmentAddress)
    else
      match readMem (lowerAddr s.u) s with
      | .ok (w, t) =>
        if field w 15 3 = 0#3 then .ok (t.setU (setLowerAddr t.u (lowerAddr w)))
        else .error (.refused .augmentIndirect)
      | .error r => .error r

/-- The installed channel of a channel digit (spec/46_input_output.md R300). -/
def channelOf (x : BitVec 3) (s : State) : Res ChanId :=
  match ChanId.ofDigit x with
  | none => .error (.refused .channelNotInstalled)
  | some c => if s.chanInstalled c then .ok c else .error (.refused .channelNotInstalled)

end Sys2Proof.Machine
end

