-- ==== Sys2Proof/Machine/Transmission.lean ====
section
/-! DEFINITION. The transmission instructions (spec/40_transmission.md R130 to R147). -/

namespace Sys2Proof.Machine

/-- An instruction whose effect is a function of its 48-bit operand. -/
def onOperand (b : Desig) (m : Addr) (f : Word → State → State) (s : State) : Res State :=
  match operand b m s with
  | .ok (x, t) => .ok (f x t)
  | .error r => .error r

/-- An instruction whose effect is a function of its effective address, M, Y or K. -/
def onEffective (b : Desig) (m : Addr) (f : Addr → State → Res State) (s : State) : Res State :=
  match effective b m s with
  | .ok (a, t) => f a t
  | .error r => .error r

/-- An instruction that works on an index register and an unmodified address (spec/30_encoding.md R100). -/
def onResolved (b : Desig) (m : Addr) (f : Option Ix → Addr → State → Res State) (s : State) : Res State :=
  match resolve b m s with
  | .ok ((r, a), t) => f r a t
  | .error e => .error e

/-- IAQ (R130). -/
def execIaq (s : State) : Host.Outcome State Fault Refusal :=
  finishSeq s (.ok ((s.setA s.q).setQ s.a))

/-- LDA (R131), with t2 the magnitude (spec/45_character_internal.md R285). -/
def execLda (b : Desig) (m : Addr) (s : State) : Host.Outcome State Fault Refusal :=
  finishSeq s (onOperand b m (fun x t => t.setA (t.opnd x)) s)

/-- LAC (R132). -/
def execLac (b : Desig) (m : Addr) (s : State) : Host.Outcome State Fault Refusal :=
  finishSeq s (onOperand b m (fun x t => t.setA (~~~x)) s)

/-- LDQ (R133), with t2 the magnitude. -/
def execLdq (b : Desig) (m : Addr) (s : State) : Host.Outcome State Fault Refusal :=
  finishSeq s (onOperand b m (fun x t => t.setQ (t.opnd x)) s)

/-- LQC (R134). -/
def execLqc (b : Desig) (m : Addr) (s : State) : Host.Outcome State Fault Refusal :=
  finishSeq s (onOperand b m (fun x t => t.setQ (~~~x)) s)

/-- STA (R135), with t2 the magnitude; A is unchanged. -/
def execSta (b : Desig) (m : Addr) (s : State) : Host.Outcome State Fault Refusal :=
  finishSeq s (onEffective b m (fun a t => writeMem a (t.opnd t.a) t) s)

/-- STQ (R136), with t2 the magnitude; Q is unchanged. -/
def execStq (b : Desig) (m : Addr) (s : State) : Host.Outcome State Fault Refusal :=
  finishSeq s (onEffective b m (fun a t => writeMem a (t.opnd t.q) t) s)

/-- LIU (R138): the reference is made even when no register is named (R137). -/
def execLiu (b : Desig) (m : Addr) (s : State) : Host.Outcome State Fault Refusal :=
  finishSeq s
    (onResolved b m
      (fun r a t =>
        match readMem a t with
        | .ok (w, v) => .ok (v.setIxOf r (upperAddr w))
        | .error e => .error e) s)

/-- LIL (R139): the reference is made even when no register is named (R137). -/
def execLil (b : Desig) (m : Addr) (s : State) : Host.Outcome State Fault Refusal :=
  finishSeq s
    (onResolved b m
      (fun r a t =>
        match readMem a t with
        | .ok (w, v) => .ok (v.setIxOf r (lowerAddr w))
        | .error e => .error e) s)

/-- SIU (R140): one storage reference. -/
def execSiu (b : Desig) (m : Addr) (s : State) : Host.Outcome State Fault Refusal :=
  finishSeq s (onResolved b m (fun r a t => writePart a 24 (t.ixOf r) t) s)

/-- SIL (R141): one storage reference. -/
def execSil (b : Desig) (m : Addr) (s : State) : Host.Outcome State Fault Refusal :=
  finishSeq s (onResolved b m (fun r a t => writePart a 0 (t.ixOf r) t) s)

/-- SAU (R142): one storage reference. -/
def execSau (b : Desig) (m : Addr) (s : State) : Host.Outcome State Fault Refusal :=
  finishSeq s (onEffective b m (fun a t => writePart a 24 (lowerAddr t.a) t) s)

/-- SAL (R143): one storage reference. -/
def execSal (b : Desig) (m : Addr) (s : State) : Host.Outcome State Fault Refusal :=
  finishSeq s (onEffective b m (fun a t => writePart a 0 (lowerAddr t.a) t) s)

/-- ENQ (R144). -/
def execEnq (b : Desig) (y : Addr) (s : State) : Host.Outcome State Fault Refusal :=
  finishSeq s (onEffective b y (fun k t => .ok (t.setQ (sext48 k))) s)

/-- ENA (R145). -/
def execEna (b : Desig) (y : Addr) (s : State) : Host.Outcome State Fault Refusal :=
  finishSeq s (onEffective b y (fun k t => .ok (t.setA (sext48 k))) s)

/-- ENI (R146). -/
def execEni (b : Desig) (y : Addr) (s : State) : Host.Outcome State Fault Refusal :=
  finishSeq s (onResolved b y (fun r k t => .ok (t.setIxOf r k)) s)

/-- ATI (R147): b = 0 or 7 is undefined. -/
def execAti (b : Desig) (s : State) : Host.Outcome State Fault Refusal :=
  finishSeq s
    (match b with
      | .zero => .error (.refused .atiDesignator)
      | .ix r => .ok (s.setIx r (lowerAddr s.a))
      | .seven => .error (.refused .atiDesignator))

end Sys2Proof.Machine
end

