-- ==== Sys2Proof/Machine/Arithmetic.lean ====
section
/-! DEFINITION. The arithmetic instructions (spec/41_arithmetic.md R160 to R182). -/

namespace Sys2Proof.Machine

/-- A result and the state that holds its faults, put in A. -/
def putA (r : Word × State) : State := r.2.setA r.1

/-- ADD (R162). -/
def execAdd (b : Desig) (m : Addr) (s : State) : Host.Outcome State Fault Refusal :=
  finishSeq s (onOperand b m (fun x t => putA (sum t.a (t.opnd x) t)) s)

/-- SUB (R163). -/
def execSub (b : Desig) (m : Addr) (s : State) : Host.Outcome State Fault Refusal :=
  finishSeq s (onOperand b m (fun x t => putA (difference t.a (t.opnd x) t)) s)

/-- MUI (R164). -/
def execMui (b : Desig) (m : Addr) (s : State) : Host.Outcome State Fault Refusal :=
  finishSeq s (onOperand b m (fun x t => (multiply t.a (t.opnd x) t).2.setQA (multiply t.a (t.opnd x) t).1) s)

/-- DVI (R165, R166). -/
def execDvi (b : Desig) (m : Addr) (s : State) : Host.Outcome State Fault Refusal :=
  finishSeq s (onOperand b m (fun x t => divide (t.opnd x) t) s)

/-- A floating point instruction (R171): with the option its operation, without it a Category II interrupt (R176). -/
def floating (k : FpKind) (b : Desig) (m : Addr) (s : State) : Host.Outcome State Fault Refusal :=
  if s.cfg.hasFpo then finishSeq s (onOperand b m (fun x t => floatingPoint k (t.opnd x) t) s)
  else finish s (takeInterrupt (.two k) s)

/-- FAD (R172). -/
def execFad (b : Desig) (m : Addr) (s : State) : Host.Outcome State Fault Refusal :=
  floating .add b m s

/-- FSB (R173). -/
def execFsb (b : Desig) (m : Addr) (s : State) : Host.Outcome State Fault Refusal :=
  floating .sub b m s

/-- FMU (R174). -/
def execFmu (b : Desig) (m : Addr) (s : State) : Host.Outcome State Fault Refusal :=
  floating .mul b m s

/-- FDV (R175). -/
def execFdv (b : Desig) (m : Addr) (s : State) : Host.Outcome State Fault Refusal :=
  floating .div b m s

/-- INA (R180). -/
def execIna (b : Desig) (y : Addr) (s : State) : Host.Outcome State Fault Refusal :=
  finishSeq s (onEffective b y (fun k t => .ok (putA (sum t.a (sext48 k) t))) s)

/-- INI (R181): one's complement on 15 bits, no fault. -/
def execIni (b : Desig) (y : Addr) (s : State) : Host.Outcome State Fault Refusal :=
  finishSeq s (onResolved b y (fun r k t => .ok (t.setIxOf r (ocadd (t.ixOf r) k))) s)

/-- What ISK does to its index register, and where it goes (R182). -/
def indexSkip (r : Option Ix) (y : Addr) (s : State) : State :=
  if s.ixOf r = y then (s.setIxOf r 0).skipLower else (s.setIxOf r (ocadd (s.ixOf r) 1)).advance

/-- ISK (R182). -/
def execIsk (b : Desig) (y : Addr) (s : State) : Host.Outcome State Fault Refusal :=
  finish s (onResolved b y (fun r k t => .ok (indexSkip r k t)) s)

end Sys2Proof.Machine
end

