-- ==== Sys2Proof/Machine/Logical.lean ====
section
/-! DEFINITION. The logical, shift and scale instructions (spec/42_logical_shift.md R190 to R212). -/

namespace Sys2Proof.Machine

/-- SST (R191). -/
def execSst (b : Desig) (m : Addr) (s : State) : Host.Outcome State Fault Refusal :=
  finishSeq s (onOperand b m (fun x t => t.setA (t.a ||| x)) s)

/-- SCL (R192). -/
def execScl (b : Desig) (m : Addr) (s : State) : Host.Outcome State Fault Refusal :=
  finishSeq s (onOperand b m (fun x t => t.setA (t.a &&& ~~~x)) s)

/-- SCM (R193). -/
def execScm (b : Desig) (m : Addr) (s : State) : Host.Outcome State Fault Refusal :=
  finishSeq s (onOperand b m (fun x t => t.setA (t.a ^^^ x)) s)

/-- SSU (R194). -/
def execSsu (b : Desig) (m : Addr) (s : State) : Host.Outcome State Fault Refusal :=
  finishSeq s (onOperand b m (fun x t => t.setA ((t.a &&& ~~~t.q) ||| (x &&& t.q))) s)

/-- LDL (R195). -/
def execLdl (b : Desig) (m : Addr) (s : State) : Host.Outcome State Fault Refusal :=
  finishSeq s (onOperand b m (fun x t => t.setA (t.q &&& x)) s)

/-- ADL (R196). -/
def execAdl (b : Desig) (m : Addr) (s : State) : Host.Outcome State Fault Refusal :=
  finishSeq s (onOperand b m (fun x t => putA (sum t.a (t.q &&& x) t)) s)

/-- SBL (R197). -/
def execSbl (b : Desig) (m : Addr) (s : State) : Host.Outcome State Fault Refusal :=
  finishSeq s (onOperand b m (fun x t => putA (difference t.a (t.q &&& x) t)) s)

/-- STL (R198): neither register is modified. -/
def execStl (b : Desig) (m : Addr) (s : State) : Host.Outcome State Fault Refusal :=
  finishSeq s (onEffective b m (fun a t => writeMem a (t.q &&& t.a) t) s)

/-- A shift: the shift fault of K, then a function of the count (R200). -/
def onShift (b : Desig) (k : Addr) (f : Nat → State → State) (s : State) : Res State :=
  onEffective b k (fun n t => .ok (f (shiftCount n) (t.shiftFault n))) s

/-- ARS (R201): the sign is extended. -/
def execArs (b : Desig) (k : Addr) (s : State) : Host.Outcome State Fault Refusal :=
  finishSeq s (onShift b k (fun n t => t.setA (t.a.sshiftRight n)) s)

/-- QRS (R202): the sign is extended. -/
def execQrs (b : Desig) (k : Addr) (s : State) : Host.Outcome State Fault Refusal :=
  finishSeq s (onShift b k (fun n t => t.setQ (t.q.sshiftRight n)) s)

/-- LRS (R203): the sign of A is extended through AQ. -/
def execLrs (b : Desig) (k : Addr) (s : State) : Host.Outcome State Fault Refusal :=
  finishSeq s (onShift b k (fun n t => t.setAQ (t.aq.sshiftRight n)) s)

/-- ALS (R204): left circular. -/
def execAls (b : Desig) (k : Addr) (s : State) : Host.Outcome State Fault Refusal :=
  finishSeq s (onShift b k (fun n t => t.setA (t.a.rotateLeft n)) s)

/-- QLS (R205): left circular. -/
def execQls (b : Desig) (k : Addr) (s : State) : Host.Outcome State Fault Refusal :=
  finishSeq s (onShift b k (fun n t => t.setQ (t.q.rotateLeft n)) s)

/-- LLS (R206): AQ left circular. -/
def execLls (b : Desig) (k : Addr) (s : State) : Host.Outcome State Fault Refusal :=
  finishSeq s (onShift b k (fun n t => t.setAQ (t.aq.rotateLeft n)) s)

/-- The scaling loop: left circular until the two top bits differ or the count is used up; the word and the count
left (R211). -/
def scaleLoop {w : Nat} : Nat → BitVec w → BitVec w × Nat
  | 0, x => (x, 0)
  | n + 1, x => if x.getLsbD (w - 1) = x.getLsbD (w - 2) then scaleLoop n (x.rotateLeft 1) else (x, n + 1)

/-- Scale a word by k: its final value and the final k, whose bits 14..7 are kept (R210; log 33). A zero is not
scaled. -/
def scale {w : Nat} (x : BitVec w) (k : Addr) : BitVec w × Addr :=
  if x = 0 ∨ x = BitVec.allOnes w then (x, k)
  else ((scaleLoop (shiftCount k) x).1, field k 7 8 ++ BitVec.ofNat 7 (scaleLoop (shiftCount k) x).2)

/-- SCA (R211). -/
def execSca (b : Desig) (k : Addr) (s : State) : Host.Outcome State Fault Refusal :=
  finishSeq s (onResolved b k (fun r n t => .ok ((t.setA (scale t.a n).1).setIxOf r (scale t.a n).2)) s)

/-- SCQ (R212). -/
def execScq (b : Desig) (k : Addr) (s : State) : Host.Outcome State Fault Refusal :=
  finishSeq s (onResolved b k (fun r n t => .ok ((t.setAQ (scale t.aq n).1).setIxOf r (scale t.aq n).2)) s)

end Sys2Proof.Machine
end

