-- ==== Sys2Proof/Machine/Replace.lean ====
section
/-! DEFINITION. The replace, storage test and search instructions (spec/43_replace_test_search.md R220 to R234). -/

namespace Sys2Proof.Machine

/-- A replace instruction: a result from the operand goes to A and back to M, two storage references (R220). -/
def replace (b : Desig) (m : Addr) (f : Word → State → Word × State) (s : State) : Res State :=
  onEffective b m
    (fun a t =>
      match readMem a t with
      | .ok (x, v) => writeMem a (f x v).1 (putA (f x v))
      | .error r => .error r) s

/-- RAD (R221). -/
def execRad (b : Desig) (m : Addr) (s : State) : Host.Outcome State Fault Refusal :=
  finishSeq s (replace b m (fun x t => sum x t.a t) s)

/-- RSB (R222): the minuend is the storage operand. -/
def execRsb (b : Desig) (m : Addr) (s : State) : Host.Outcome State Fault Refusal :=
  finishSeq s (replace b m (fun x t => difference x t.a t) s)

/-- RAO (R223). -/
def execRao (b : Desig) (m : Addr) (s : State) : Host.Outcome State Fault Refusal :=
  finishSeq s (replace b m (fun x t => sum x 1 t) s)

/-- RSO (R224). -/
def execRso (b : Desig) (m : Addr) (s : State) : Host.Outcome State Fault Refusal :=
  finishSeq s (replace b m (fun x t => difference x 1 t) s)

/-- Skip the lower instruction where a condition holds (spec/30_encoding.md R103). -/
def State.skipIf (s : State) (c : Bool) : State := if c then s.skipLower else s.advance

/-- SSK (R226). -/
def execSsk (b : Desig) (m : Addr) (s : State) : Host.Outcome State Fault Refusal :=
  finish s (onOperand b m (fun x t => t.skipIf x.msb) s)

/-- SSH (R227): two storage references; the sign sensed is that of the word before the shift. -/
def execSsh (b : Desig) (m : Addr) (s : State) : Host.Outcome State Fault Refusal :=
  finish s
    (onEffective b m
      (fun a t =>
        match readMem a t with
        | .ok (x, v) =>
          match writeMem a (x.rotateLeft 1) v with
          | .ok w => .ok (w.skipIf x.msb)
          | .error r => .error r
        | .error r => .error r) s)

/-- The counting loop of a search: whether a word was found, and the state it leaves (R230). The first argument is
the contents of the register. -/
def searchLoop (hit : Word → Bool) (r : Ix) (m : Addr) : Nat → State → Res (Bool × State)
  | 0, s => .ok (false, s)
  | n + 1, s =>
    let t := s.setIx r (ocsub (s.ix r) 1)
    match readMem (t.modify (some r) m) t with
    | .ok (x, u) => if hit x then .ok (true, u) else searchLoop hit r m n u
    | .error e => .error e

/-- `Search` (R230): a register that holds 77777 is refused (log 17). -/
def search (hit : Word → State → Bool) (b : Desig) (m : Addr) (s : State) : Res State :=
  onResolved b m
    (fun r a t =>
      match r with
      | none =>
        match readMem a t with
        | .ok (x, u) => .ok (u.skipIf (hit x u))
        | .error e => .error e
      | some i =>
        if t.ix i = BitVec.allOnes 15 then .error (.refused .negativeZeroIndex)
        else
          match searchLoop (fun x => hit x t) i a (t.ix i).toNat t with
          | .ok (found, u) => .ok (u.skipIf found)
          | .error e => .error e) s

/-- EQS (R231). -/
def execEqs (b : Desig) (m : Addr) (s : State) : Host.Outcome State Fault Refusal :=
  finish s (search (fun x t => eq48 x t.a) b m s)

/-- THS (R232). -/
def execThs (b : Desig) (m : Addr) (s : State) : Host.Outcome State Fault Refusal :=
  finish s (search (fun x t => gt48 x t.a) b m s)

/-- MEQ (R233). -/
def execMeq (b : Desig) (m : Addr) (s : State) : Host.Outcome State Fault Refusal :=
  finish s (search (fun x t => eq48 (t.q &&& x) t.a) b m s)

/-- MTH (R234). -/
def execMth (b : Desig) (m : Addr) (s : State) : Host.Outcome State Fault Refusal :=
  finish s (search (fun x t => gt48 (t.q &&& x) t.a) b m s)

end Sys2Proof.Machine
end

