-- ==== Sys2Proof/Machine/Jumps.lean ====
section
/-! DEFINITION. The jumps and stops (spec/44_jumps_stops.md R240 to R253). -/

namespace Sys2Proof.Machine

/-- `cond(j, R)` (R243): both zeros are zero, the sign is bit 47. -/
def regCond (j : RegCond) (r : Word) : Bool :=
  match j with
  | .zero => isZero r
  | .nonzero => !isZero r
  | .positive => !r.msb
  | .negative => r.msb

/-- `sw(j)`: the Selective Jump switches (R248). A switch that is set while the console is locked out (R422) cannot be
moved; that it is still read as set is THE MODEL'S CHOICE (log 28). -/
def State.jumpCond (s : State) : SwCond → Bool
  | .always => true
  | .sw1 => s.console.jump1
  | .sw2 => s.console.jump2
  | .sw3 => s.console.jump3

/-- `stopcond(j)`: the Stop switches, active only in maintenance mode (R250). -/
def State.stopCond (s : State) : SwCond → Bool
  | .always => true
  | .sw1 => s.console.maintenance && s.console.stop1
  | .sw2 => s.console.maintenance && s.console.stop2
  | .sw3 => s.console.maintenance && s.console.stop3

/-- A conditional normal jump (R241). -/
def condJump (c : Bool) (m : Addr) (s : State) : Host.Outcome State Fault Refusal :=
  finishJump s (c && !s.outOfBounds m) (.ok (if c then normalJump m s.advance s else s.advance))

/-- A conditional return jump (R242). -/
def condReturn (c : Bool) (m : Addr) (s : State) : Host.Outcome State Fault Refusal :=
  finish s (if c then returnJump m s else .ok s.advance)

/-- `Stop()`: the pointer keeps designating the stop instruction (R252). -/
def State.stop (s : State) : State := (s.setRunning false).setSlsStopped true

/-- AJP (R243). -/
def execAjp (j : RegCond) (m : Addr) (s : State) : Host.Outcome State Fault Refusal :=
  condJump (regCond j s.a) m s

/-- ARJ (R244). -/
def execArj (j : RegCond) (m : Addr) (s : State) : Host.Outcome State Fault Refusal :=
  condReturn (regCond j s.a) m s

/-- QJP (R245). -/
def execQjp (j : RegCond) (m : Addr) (s : State) : Host.Outcome State Fault Refusal :=
  condJump (regCond j s.q) m s

/-- QRJ (R246). -/
def execQrj (j : RegCond) (m : Addr) (s : State) : Host.Outcome State Fault Refusal :=
  condReturn (regCond j s.q) m s

/-- IJP (R247): the count happens even when the bounds check refuses the jump; 77777 is refused (log 17). -/
def execIjp (b : Desig) (m : Addr) (s : State) : Host.Outcome State Fault Refusal :=
  match resolve b m s with
  | .ok ((none, _), t) => finishJump s false (.ok t.advance)
  | .ok ((some r, a), t) =>
    if t.ix r = BitVec.allOnes 15 then .refused .negativeZeroIndex
    else if t.ix r = 0 then finishJump s false (.ok t.advance)
    else
      let u := t.setIx r (ocsub (t.ix r) 1)
      finishJump s (!u.outOfBounds a) (.ok (normalJump a u.advance u))
  | .error (.fault e) => .fault e
  | .error (.refused e) => .refused e

/-- SLJ (R248). -/
def execSlj (j : SwCond) (m : Addr) (s : State) : Host.Outcome State Fault Refusal :=
  condJump (s.jumpCond j) m s

/-- RTJ (R249). -/
def execRtj (j : SwCond) (m : Addr) (s : State) : Host.Outcome State Fault Refusal :=
  condReturn (s.jumpCond j) m s

/-- SLS (R250): the stop is conditional, the jump is not. -/
def execSls (j : SwCond) (m : Addr) (s : State) : Host.Outcome State Fault Refusal :=
  if s.stopCond j then .next s.stop else condJump true m s

/-- SRJ (R251): the stop is conditional, the return jump is not. -/
def execSrj (j : SwCond) (m : Addr) (s : State) : Host.Outcome State Fault Refusal :=
  if s.stopCond j then .next s.stop else condReturn true m s

end Sys2Proof.Machine
end

