-- ==== Sys2Proof/Machine/Internal.lean ====
section
/-! DEFINITION. The character, internal function, internal sense, augment and bounds instructions
(spec/45_character_internal.md R260 to R289). -/

namespace Sys2Proof.Machine

/-- `Mask[n] <- 1`. -/
def State.select (s : State) (n : Nat) : State := s.setMask (s.mask ||| bitWord n)

/-- `Mask[n] <- 0`. -/
def State.deselect (s : State) (n : Nat) : State := s.setMask (s.mask &&& ~~~(bitWord n))

/-- LDC (R261). -/
def execLdc (b v : Desig) (m : Addr) (s : State) : Host.Outcome State Fault Refusal :=
  finish s
    (onEffective b m
      (fun a t =>
        match charPos v t with
        | .ok k =>
          match readMem a t with
          | .ok (x, u) => .ok (u.setA ((field x k 6).setWidth 48)).nextStep
          | .error r => .error r
        | .error r => .error r) s)

/-- STC (R262): two storage references, the read and the write back. -/
def execStc (b v : Desig) (m : Addr) (s : State) : Host.Outcome State Fault Refusal :=
  finish s
    (onEffective b m
      (fun a t =>
        match charPos v t with
        | .ok k =>
          match readMem a t with
          | .ok (x, u) =>
            match writeMem a (setField x k (field u.a 0 6)) u with
            | .ok w => .ok w.nextStep
            | .error r => .error r
          | .error r => .error r
        | .error r => .error r) s)

/-- The effect of an INF code, none where the table has no such code (R266 to R276). -/
def internalFunction (y : Nat) (s : State) : Option State :=
  match y with
  | 0o00000 => some ((s.select 10).clearFault 10)
  | 0o00001 => some ((s.deselect 10).clearFault 10)
  | 0o00010 => some ((s.select 11).clearFault 11)
  | 0o00011 => some ((s.deselect 11).clearFault 11)
  | 0o00020 => some ((s.select 12).clearFault 12)
  | 0o00021 => some ((s.deselect 12).clearFault 12)
  | 0o00030 => some ((s.select 13).clearFault 13)
  | 0o00031 => some ((s.deselect 13).clearFault 13)
  | 0o00110 => some (s.setCtl { s.ctl with exit1 := true })
  | 0o00111 => some (s.setCtl { s.ctl with exit1 := false })
  | 0o00120 => some (s.setCtl { s.ctl with exit2 := true })
  | 0o00121 => some (s.setCtl { s.ctl with exit2 := false })
  | 0o00200 => some (s.select 30)
  | 0o00201 => some (s.deselect 30)
  | 0o00210 => some (s.select 31)
  | 0o00211 => some (s.deselect 31)
  | 0o00220 => some (s.select 32)
  | 0o00221 => some (s.deselect 32)
  | 0o00230 => some (s.select 33)
  | 0o00231 => some (s.deselect 33)
  | 0o00300 => some (s.select 20)
  | 0o00301 => some (s.deselect 20)
  | 0o00310 => some (s.select 21)
  | 0o00311 => some (s.deselect 21)
  | 0o00320 => some (s.select 22)
  | 0o00321 => some (s.deselect 22)
  | 0o00330 => some (s.select 23)
  | 0o00331 => some (s.deselect 23)
  | 0o00400 => some (((((s.clearFault 1).clearFault 2).clearFault 3).clearFault 4).clearFault 5)
  | 0o00410 => some (s.select 1)
  | 0o00411 => some (s.deselect 1)
  | 0o00412 => some (s.clearFault 1)
  | 0o00420 => some (s.select 2)
  | 0o00421 => some (s.deselect 2)
  | 0o00422 => some (s.clearFault 2)
  | 0o00430 => some (s.select 3)
  | 0o00431 => some (s.deselect 3)
  | 0o00432 => some (s.clearFault 3)
  | 0o00440 => some (s.select 4)
  | 0o00441 => some (s.deselect 4)
  | 0o00442 => some (s.clearFault 4)
  | 0o00450 => some (s.select 5)
  | 0o00451 => some (s.deselect 5)
  | 0o00452 => some (s.clearFault 5)
  | 0o00500 => some (((s.select 44).clearFault 44).setCtl { s.ctl with timeArmed := true })
  | 0o00501 => some (((s.deselect 44).clearFault 44).setCtl { s.ctl with timeArmed := false })
  | 0o00510 => some ((s.select 43).clearFault 43)
  | 0o00511 => some ((s.deselect 43).clearFault 43)
  | 0o00520 => some (s.select 45)
  | 0o00521 => some (s.deselect 45)
  | 0o00522 => some (s.clearFault 45)
  | 0o00530 => some (s.select 46)
  | 0o00531 => some (s.deselect 46)
  | 0o00532 => some (s.clearFault 46)
  | 0o00540 => some ((s.select 42).clearFault 42)
  | 0o00541 => some ((s.deselect 42).clearFault 42)
  | 0o00600 => some (s.setCtl { s.ctl with active := true })
  | 0o00601 => some (s.setCtl { s.ctl with active := false })
  | 0o00602 => some (((s.setIntr 0).setMask 0).setCtl { s.ctl with active := false, timeArmed := false })
  | _ => none

/-- INF (R265). -/
def execInf (y : Addr) (s : State) : Host.Outcome State Fault Refusal :=
  finishSeq s
    (match internalFunction y.toNat s with
      | some t => .ok t
      | none => .error (.refused .functionCode))

/-- The condition of a SEN code, none where the table has no such code; a channel that is not installed is never
active (R281). -/
def senseCondition (y : Nat) (s : State) : Option Bool :=
  match y with
  | 0o00000 => some (!(s.chan .c0).active || !s.chanInstalled .c0)
  | 0o00001 => some ((s.chan .c0).active && s.chanInstalled .c0)
  | 0o00010 => some (!(s.chan .c1).active || !s.chanInstalled .c1)
  | 0o00011 => some ((s.chan .c1).active && s.chanInstalled .c1)
  | 0o00020 => some (!(s.chan .c2).active || !s.chanInstalled .c2)
  | 0o00021 => some ((s.chan .c2).active && s.chanInstalled .c2)
  | 0o00030 => some (!(s.chan .c3).active || !s.chanInstalled .c3)
  | 0o00031 => some ((s.chan .c3).active && s.chanInstalled .c3)
  | 0o00110 => some s.ctl.exit1
  | 0o00111 => some (!s.ctl.exit1)
  | 0o00120 => some s.ctl.exit2
  | 0o00121 => some (!s.ctl.exit2)
  | 0o00210 => some s.ctl.mode1
  | 0o00211 => some (!s.ctl.mode1)
  | 0o00220 => some s.ctl.mode2
  | 0o00221 => some (!s.ctl.mode2)
  | _ => none

/-- SEN (R280): in the lower half a pass, whatever its code. -/
def execSen (y : Addr) (s : State) : Host.Outcome State Fault Refusal :=
  match s.half with
  | .lower => finishSeq s (.ok s)
  | .upper =>
    match senseCondition y.toNat s with
    | some c => finish s (.ok (s.skipIf c))
    | none => .refused .senseCode

/-- AUG in the upper half: v changes the lower instruction in U, t is stored, and the lower instruction follows with
no sampling between (R283 to R286). -/
def augment (v : Desig) (t2 t1 t0 : Bool) (s : State) : Res State :=
  if s.atExit then .error (.refused .exitNotJump)
  else if augAllowed (functionCode (field s.u 0 24)) t2 t1 t0 then
    match augAddress v s with
    | .ok t => .ok (t.setAug { t2 := t2, t1 := t1, t0 := t0 }).advance
    | .error r => .error r
  else .error (.refused .augmentDesignator)

/-- AUG (R283): in the lower half a pass. -/
def execAug (v : Desig) (t2 t1 t0 : Bool) (s : State) : Host.Outcome State Fault Refusal :=
  match s.half with
  | .lower => finishSeq s (.ok s)
  | .upper => Res.outcome (augment v t2 t1 t0 s)

/-- EUB and ELB are illegal while the interrupt system is active and Mask bit 42 is set (R288). -/
def State.boundsLocked (s : State) : Bool := s.ctl.active && s.mask.getLsbD 42

/-- EUB (R288). -/
def execEub (y : BitVec 8) (s : State) : Host.Outcome State Fault Refusal :=
  if s.boundsLocked then finish s (takeInterrupt .three s) else finishSeq s (.ok (s.setBu y))

/-- ELB (R289). -/
def execElb (y : BitVec 8) (s : State) : Host.Outcome State Fault Refusal :=
  if s.boundsLocked then finish s (takeInterrupt .three s) else finishSeq s (.ok (s.setBl y))

end Sys2Proof.Machine
end

