-- ==== Sys2Proof/Machine/InputOutput.lean ====
section
/-! DEFINITION. The input/output instructions (spec/46_input_output.md R300 to R313). -/

namespace Sys2Proof.Machine

/-- The reject jump (R302). -/
def reject (n : Addr) (s : State) : State := normalJump n s.nextStep s

/-- A transmission parity error on a code: the code is used up, and the equipments that note it do (R342,
spec/60_exceptions.md R391). -/
def State.codeError (s : State) (x : ChanId) (k : Transmitted) : State :=
  (s.setCodeParity false).setEquip (onChannel x (fun e => e.device.parityError k) s.equip)

/-- A connect code sent on a channel: the answer, and the state after it with the channel's connection (R303). A parity
error leaves the connection as it was (log 25). That a code after an error, and before the clear that R391 asks for "to
initiate operation", acts as if none stood is THE MODEL'S CHOICE (log 25). -/
def sendConnect (x : ChanId) (c : BitVec 12) (s : State) : Reply × State :=
  if s.codeParity then (.silent, s.codeError x .connect)
  else
    let a := connectAll x c s.equip
    let t := s.setEquip a.2
    match a.1 with
    | .reply => (.reply, t.setChan x { t.chan x with conn := some (field c 9 3, field c 0 9) })
    | .reject => (.reject, t.setChan x { t.chan x with conn := none })
    | .silent => (.silent, t.setChan x { t.chan x with conn := none })

/-- A function code sent on a channel (R304). The typewriter's ambiguous code takes a free choice (log 30).
After a parity error and before a clear it acts as if none stood, THE MODEL'S CHOICE (R391; log 25). -/
def sendFunction (x : ChanId) (c : BitVec 12) (s : State) : Reply × State :=
  match (s.chan x).conn with
  | none => (.silent, s)
  | some (n, _) =>
    if s.codeParity then (.silent, (s.codeError x .function).setFault (20 + x.index))
    else
      let u := s.freeBit.2
      let a := functionAll x n c s.freeBit.1 u.equip
      (a.1, u.setEquip a.2)

/-- Where a connect or function instruction goes after an answer. -/
def afterReply (n : Addr) (r : Reply × State) : State :=
  match r.1 with
  | .reply => r.2.nextStep
  | .reject => reject n r.2
  | .silent => reject n r.2

/-- CONN (R303). -/
def execConn (n : Addr) (x : BitVec 3) (c : BitVec 12) (s : State) : Host.Outcome State Fault Refusal :=
  finish s
    (match channelOf x s with
      | .ok k => .ok (if (s.chan k).active then reject n s else afterReply n (sendConnect k c s))
      | .error r => .error r)

/-- EXTF (R304). -/
def execExtf (n : Addr) (x : BitVec 3) (c : BitVec 12) (s : State) : Host.Outcome State Fault Refusal :=
  finish s
    (match channelOf x s with
      | .ok k => .ok (if (s.chan k).active then reject n s else afterReply n (sendFunction k c s))
      | .error r => .error r)

/-- A Read or a Write starts: the control word is fetched and the channel becomes active (R305, R306, R313).
After a parity error and before a clear it does so as if none stood, THE MODEL'S CHOICE (R391; log 25). -/
def startChannel (x : ChanId) (d : Dir) (m : Addr) (s : State) : Res State :=
  match readMem m s with
  | .ok (w, t) =>
    .ok ((t.setChan x { t.chan x with wc := upperAddr w, ca := lowerAddr w, active := true, dir := d }).setEquip
      (onChannel x (fun e => e.device.start d) t.equip)).nextStep
  | .error r => .error r

/-- BEGR (R305): rejected only while the channel is busy. -/
def execBegr (n : Addr) (x : BitVec 3) (m : Addr) (s : State) : Host.Outcome State Fault Refusal :=
  finish s
    (match channelOf x s with
      | .ok k => if (s.chan k).active then .ok (reject n s) else startChannel k .read m s
      | .error r => .error r)

/-- BEGW (R306): rejected only while the channel is busy. -/
def execBegw (n : Addr) (x : BitVec 3) (m : Addr) (s : State) : Host.Outcome State Fault Refusal :=
  finish s
    (match channelOf x s with
      | .ok k => if (s.chan k).active then .ok (reject n s) else startChannel k .write m s
      | .error r => .error r)

/-- A channel's count and address in the places of a control word (R308, R312, R313). -/
def Channel.controlWord (c : Channel) : Word := 0#9 ++ c.wc ++ 0#9 ++ c.ca

/-- The word COPY puts in Q (R308). -/
def State.statusWord (s : State) (x : ChanId) : Word := 0#16 ++ s.intLines x ++ 0#12 ++ s.status x

/-- COPY (R308). -/
def execCopy (x : BitVec 3) (s : State) : Host.Outcome State Fault Refusal :=
  finish s
    (match channelOf x s with
      | .ok k => .ok ((s.setA (s.chan k).controlWord).setQ (s.statusWord k)).nextStep
      | .error r => .error r)

/-- CLCH (R311). -/
def execClch (x : BitVec 3) (s : State) : Host.Outcome State Fault Refusal :=
  finish s
    (match channelOf x s with
      | .ok k => .ok (s.clearChannel k).nextStep
      | .error r => .error r)

/-- CCWD (R312). -/
def execCcwd (x : BitVec 3) (s : State) : Host.Outcome State Fault Refusal :=
  finish s
    (match channelOf x s with
      | .ok k =>
        .ok ((s.setChan k { s.chan k with wc := upperAddr s.a, ca := lowerAddr s.a }).setA
          (s.chan k).controlWord).nextStep
      | .error r => .error r)

/-- CIS (R309). -/
def execCis (s : State) : Host.Outcome State Fault Refusal :=
  finishSeq s (.ok (s.setA s.interrupt))

/-- CPR (R310). -/
def execCpr (s : State) : Host.Outcome State Fault Refusal :=
  finishSeq s (.ok (s.setA s.product))

end Sys2Proof.Machine
end

