-- ==== Sys2Proof/Machine/Dispatch.lean ====
section
/-! DEFINITION. One arm for each instruction, each one call of its meaning. -/

namespace Sys2Proof.Machine

def exec (i : Instr) (s : State) : Host.Outcome State Fault Refusal :=
  match i with
  | .iaq => Sys2Proof.Machine.execIaq s
  | .lda b m => Sys2Proof.Machine.execLda b m s
  | .ldq b m => Sys2Proof.Machine.execLdq b m s
  | .sta b m => Sys2Proof.Machine.execSta b m s
  | .stq b m => Sys2Proof.Machine.execStq b m s
  | .lac b m => Sys2Proof.Machine.execLac b m s
  | .lqc b m => Sys2Proof.Machine.execLqc b m s
  | .sal b m => Sys2Proof.Machine.execSal b m s
  | .sau b m => Sys2Proof.Machine.execSau b m s
  | .enq b y => Sys2Proof.Machine.execEnq b y s
  | .ena b y => Sys2Proof.Machine.execEna b y s
  | .lil b m => Sys2Proof.Machine.execLil b m s
  | .liu b m => Sys2Proof.Machine.execLiu b m s
  | .sil b m => Sys2Proof.Machine.execSil b m s
  | .siu b m => Sys2Proof.Machine.execSiu b m s
  | .eni b y => Sys2Proof.Machine.execEni b y s
  | .ati b => Sys2Proof.Machine.execAti b s
  | .add b m => Sys2Proof.Machine.execAdd b m s
  | .sub b m => Sys2Proof.Machine.execSub b m s
  | .mui b m => Sys2Proof.Machine.execMui b m s
  | .dvi b m => Sys2Proof.Machine.execDvi b m s
  | .ina b y => Sys2Proof.Machine.execIna b y s
  | .ini b y => Sys2Proof.Machine.execIni b y s
  | .isk b y => Sys2Proof.Machine.execIsk b y s
  | .sst b m => Sys2Proof.Machine.execSst b m s
  | .scl b m => Sys2Proof.Machine.execScl b m s
  | .scm b m => Sys2Proof.Machine.execScm b m s
  | .ssu b m => Sys2Proof.Machine.execSsu b m s
  | .ldl b m => Sys2Proof.Machine.execLdl b m s
  | .adl b m => Sys2Proof.Machine.execAdl b m s
  | .sbl b m => Sys2Proof.Machine.execSbl b m s
  | .stl b m => Sys2Proof.Machine.execStl b m s
  | .ars b k => Sys2Proof.Machine.execArs b k s
  | .qrs b k => Sys2Proof.Machine.execQrs b k s
  | .lrs b k => Sys2Proof.Machine.execLrs b k s
  | .als b k => Sys2Proof.Machine.execAls b k s
  | .qls b k => Sys2Proof.Machine.execQls b k s
  | .lls b k => Sys2Proof.Machine.execLls b k s
  | .sca b k => Sys2Proof.Machine.execSca b k s
  | .scq b k => Sys2Proof.Machine.execScq b k s
  | .rad b m => Sys2Proof.Machine.execRad b m s
  | .rsb b m => Sys2Proof.Machine.execRsb b m s
  | .rao b m => Sys2Proof.Machine.execRao b m s
  | .rso b m => Sys2Proof.Machine.execRso b m s
  | .ssk b m => Sys2Proof.Machine.execSsk b m s
  | .ssh b m => Sys2Proof.Machine.execSsh b m s
  | .eqs b m => Sys2Proof.Machine.execEqs b m s
  | .ths b m => Sys2Proof.Machine.execThs b m s
  | .meq b m => Sys2Proof.Machine.execMeq b m s
  | .mth b m => Sys2Proof.Machine.execMth b m s
  | .ajp j m => Sys2Proof.Machine.execAjp j m s
  | .arj j m => Sys2Proof.Machine.execArj j m s
  | .qjp j m => Sys2Proof.Machine.execQjp j m s
  | .qrj j m => Sys2Proof.Machine.execQrj j m s
  | .ijp b m => Sys2Proof.Machine.execIjp b m s
  | .slj j m => Sys2Proof.Machine.execSlj j m s
  | .rtj j m => Sys2Proof.Machine.execRtj j m s
  | .sls j m => Sys2Proof.Machine.execSls j m s
  | .srj j m => Sys2Proof.Machine.execSrj j m s
  | .conn n x c => Sys2Proof.Machine.execConn n x c s
  | .extf n x c => Sys2Proof.Machine.execExtf n x c s
  | .begr n x m => Sys2Proof.Machine.execBegr n x m s
  | .begw n x m => Sys2Proof.Machine.execBegw n x m s
  | .copy x => Sys2Proof.Machine.execCopy x s
  | .clch x => Sys2Proof.Machine.execClch x s
  | .ccwd x => Sys2Proof.Machine.execCcwd x s
  | .cis => Sys2Proof.Machine.execCis s
  | .sen y => Sys2Proof.Machine.execSen y s
  | .cpr => Sys2Proof.Machine.execCpr s
  | .inf y => Sys2Proof.Machine.execInf y s
  | .aug v t2 t1 t0 => Sys2Proof.Machine.execAug v t2 t1 t0 s
  | .eub y => Sys2Proof.Machine.execEub y s
  | .elb y => Sys2Proof.Machine.execElb y s
  | .ldc b v m => Sys2Proof.Machine.execLdc b v m s
  | .stc b v m => Sys2Proof.Machine.execStc b v m s
  | .fad b m => Sys2Proof.Machine.execFad b m s
  | .fsb b m => Sys2Proof.Machine.execFsb b m s
  | .fmu b m => Sys2Proof.Machine.execFmu b m s
  | .fdv b m => Sys2Proof.Machine.execFdv b m s

end Sys2Proof.Machine
end

