-- ==== Sys2Proof/Machine/Run.lean ====
section
/-! DEFINITION. Running one instruction, and what each event of the world does (spec/30_encoding.md R101,
spec/44_jumps_stops.md R252, spec/60_exceptions.md R391 to R397, spec/70_reset_and_hazards.md R420 to R424). -/

namespace Sys2Proof.Machine

/-- The outcome type of a step. -/
abbrev Out := Host.Outcome State Fault Refusal

/-- Execute the instruction of U at `half`. An illegal code takes the Category III interrupt (R382). -/
def executeU (s : State) : Out :=
  match decodeAt s.u s.half with
  | .instr i => exec i s
  | .illegal => finish s (takeInterrupt .three s)
  | .unlisted r => .refused (.unlistedCode r)

/-- A step that is entered: its word is in U, and an exit point is recognised in the upper half (R101, R379). -/
def State.entered (s : State) (w : Word) : State :=
  match s.half with
  | .upper => (s.setU w).exitCheck
  | .lower => s.setU w

/-- A step whose word has been read executes, after the channel events that fall between the two
(spec/20_memory.md R70). -/
def State.enterWith (s : State) (w : Word) : Out :=
  match reference (s.entered w) with
  | .ok t => executeU t
  | .error (.fault r) => .fault r
  | .error (.refused r) => .refused r

/-- Enter the step at P: the bounds check, then the read (R101, R393). -/
def enterStep (s : State) : Out :=
  if s.outOfBounds s.p then Res.outcome (takeInterrupt .one (s.setFault 42))
  else
    match readMem s.p s with
    | .ok (w, t) => t.enterWith w
    | .error (.fault r) => .fault r
    | .error (.refused r) => .refused r

/-- The computer executes its next instruction: the half that U holds, or the step at P. -/
def runInstruction (s : State) : Out := if s.uHeld then executeU s else enterStep s

/-- A parity error on the read of the program step: the instruction is not executed; the interrupt is taken at once
or the computer stops (R397). Where no step is read there is no error: the half is already in U, or P is out of bounds
(log 24). -/
def instructionParity (s : State) : Out :=
  if s.uHeld || s.outOfBounds s.p then runInstruction s
  else
    match reference s with
    | .ok t =>
      let u := t.setFault 46
      if !t.installed s.p then .fault .storageNotInstalled
      else if u.ctl.active && u.mask.getLsbD 46 && !u.ctl.lock1 then Res.outcome (takeInterrupt .one u)
      else .next (u.setRunning false)
    | .error (.fault r) => .fault r
    | .error (.refused r) => .refused r

/-- The Go switch: the jump of the stopped instruction, without testing the stop again (spec/44_jumps_stops.md
R252). -/
def pressGo (s : State) : Out :=
  if s.slsStopped then
    let t := (s.setRunning true).setSlsStopped false
    match decodeAt t.u t.half with
    | .instr (.sls _ m) => condJump true m t
    | .instr (.srj _ m) => condReturn true m t
    | _ => .next s
  else .next s

/-- The registers an internal master clear leaves open (spec/10_state.md R42; log 4): free words and a free half. -/
def State.freeRegisters (s : State) : State :=
  let f := fun i => Config.freeWord (s.freeCount + i)
  let b : IndexRegs :=
    { b1 := lowerAddr (f 3), b2 := lowerAddr (f 4), b3 := lowerAddr (f 5), b4 := lowerAddr (f 6),
      b5 := lowerAddr (f 7), b6 := lowerAddr (f 8) }
  let h := if Config.freeBit (s.freeCount + 10) then Half.lower else Half.upper
  (((((((s.setA (f 0)).setQ (f 1)).setU (f 2)).setB b).setP (lowerAddr (f 9))).setHalf h).setFreeCount (s.freeCount + 11))

/-- `InternalMasterClear` (spec/70_reset_and_hazards.md R420). The bounds registers, storage and the channels are
unchanged. -/
def State.internalMasterClear (s : State) : State :=
  (((((((s.freeRegisters.setIntr 0).setMask 0).setCtl .clear).setAug .none).setSlsStopped false).setRunning
    false).setUHeld false).setAutoLoading none

/-- The Restart switch (R423): an external master clear, the interrupt system inactive, and a return jump to 00000
that is not bounds-checked. -/
def State.restart (s : State) : State :=
  let t := (((s.setRunning false).setSlsStopped false).setAutoLoading none).externalMasterClear
  let u := t.setCtl { t.ctl with active := false, exiting := false }
  ((u.hardwareReturnJump 0 (u.p + 1)).setAug .none).setRunning true

/-- The Auto Load switch (R424): both master clears, the connect and function codes, and a Read of 40000 words to
address 00000. -/
def autoLoad (x : ChanId) (c f : BitVec 12) (s : State) : Out :=
  if s.chanInstalled x then
    let t := s.internalMasterClear.externalMasterClear
    match sendConnect x c t with
    | (.reply, u) =>
      match sendFunction x f u with
      | (.reply, v) =>
        .next
          (((v.setChan x { v.chan x with wc := 0o40000, dir := .read, active := true }).setEquip
            (onChannel x (fun e => e.device.start .read) v.equip)).setAutoLoading (some x))
      | _ => .refused .autoLoadRejected
    | _ => .refused .autoLoadRejected
  else .refused .channelNotInstalled

/-- The console's End-of-Record switch between two instructions, at every channel (spec/48_external_equipment.md R346;
spec/46_input_output.md R307). Inside one it is `ChannelEvent.endOfRecordSwitch`. -/
def State.endOfRecordSwitch (s : State) : State :=
  [ChanId.c0, .c1, .c2, .c3].foldl (fun t x => if t.chanInstalled x then t.endOfRecordAt x else t) s

/-- A locking switch of three. -/
def Console.jumpSwitch (c : Console) (k : Switch) (on : Bool) : Console :=
  match k with
  | .s1 => { c with jump1 := on }
  | .s2 => { c with jump2 := on }
  | .s3 => { c with jump3 := on }

/-- A Stop switch. -/
def Console.stopSwitch (c : Console) (k : Switch) (on : Bool) : Console :=
  match k with
  | .s1 => { c with stop1 := on }
  | .s2 => { c with stop2 := on }
  | .s3 => { c with stop3 := on }

/-- What a console switch does unless the console is locked out (R422; log 28). -/
def unlessLocked (s : State) (o : Out) : Out := if s.console.locked then .next s else o

/-- System Active from Off to On (R422). -/
def State.systemOn (s : State) : State :=
  if s.console.systemActive then s
  else
    let t := s.internalMasterClear.externalMasterClear
    t.setConsole { t.console with systemActive := true }

/-- System Active from On to Off: the computer stops, the channels go on (R422). A switch that is off already makes no
such transition. That a pending Auto Load then starts nothing is THE MODEL'S CHOICE (log 27). -/
def State.systemOff (s : State) : State :=
  if s.console.systemActive then
    ((s.setConsole { s.console with systemActive := false }).setRunning false).setAutoLoading none
  else s

/-- An event of channel x, where it is installed (spec/93_implementation_defined.md U6). -/
def ifInstalled (s : State) (x : ChanId) (t : State) : Out := .next (if s.chanInstalled x then t else s)

/-- One event of the world. Which control performs the "manual internal master clear" the source does not say (R420; N30 of
spec/91_not_in_source.md): that it is one of its own, which does this clear only and is locked out with the console's
switches, is THE MODEL'S CHOICE (log 5). -/
def handle (e : Event) (s : State) : Out :=
  match e with
  | .run => if s.running then runInstruction s else .next s
  | .runParity => if s.running then instructionParity s else .next s
  | .channel c => Res.outcome (channelEvent c s)
  | .references bs => .next (s.setInter bs)
  | .lineTick =>
    .next (if s.ctl.timeArmed then (s.setFault 44).setCtl { s.ctl with timeArmed := false } else s)
  | .manualInterrupt => unlessLocked s (.next (if s.mask.getLsbD 43 then s.setFault 43 else s))
  | .operandParity => .next (s.setFault 45)
  | .outputParity x => ifInstalled s x ((s.setFault 45).setFault (20 + x.index))
  | .byteParity x =>
    ifInstalled s x ((s.setFault (20 + x.index)).setEquip
      (if s.writing x then onChannel x (fun e => e.device.parityError .data) s.equip else s.equip))
  | .codeParity => .next (s.setCodeParity true)
  | .go => unlessLocked s (pressGo s)
  | .restart => unlessLocked s (.next s.restart)
  | .autoLoad x c f => unlessLocked s (autoLoad x c f s)
  | .systemOn => .next s.systemOn
  | .systemOff => .next s.systemOff
  | .internalClear => unlessLocked s (.next s.internalMasterClear)
  | .jumpSwitch k on => unlessLocked s (.next (s.setConsole (s.console.jumpSwitch k on)))
  | .stopSwitch k on => unlessLocked s (.next (s.setConsole (s.console.stopSwitch k on)))
  | .maintenance on => .next (s.setConsole { s.console with maintenance := on })
  | .endOfRecordSwitch => unlessLocked s (.next s.endOfRecordSwitch)
  | .equipment x n k d => ifInstalled s x (s.equipmentEvent x n k d)
  | .powerOn x n => ifInstalled s x (s.setEquip (powerOnEquipment x n s.equip))
  | .detach x n => .next (s.setEquip (removeEquipment x n s.equip))

end Sys2Proof.Machine
end

