-- ==== Sys2Proof/Machine/Step.lean ====
section
/-! DEFINITION. One step of the machine, and the placing of an instruction where the next step fetches it. -/

namespace Sys2Proof.Machine

/-- One step: the next event of the world, or, where none waits, the computer's next instruction while it runs. A
stopped computer with nothing to come stays as it is (spec/60_exceptions.md R405; log 8). -/
def step (s : State) : Host.Outcome State Fault Refusal :=
  match s.env with
  | e :: rest => handle e (s.setEnv rest)
  | [] => if s.running then runInstruction s else .next s

/-- The state whose very next step runs the instruction whose bits are `w`, numbered as spec/opcode_table.json numbers
them: the word is placed at P, a 24-bit instruction in its upper half (log 37), and the computer runs it from storage
with no event before it. -/
def State.withFetchWord (s : State) (nbits w : Nat) : State :=
  let word : Word := if nbits ≤ 24 then BitVec.ofNat 24 w ++ 0#24 else BitVec.ofNat 48 w
  let t := ((((s.setMem (s.mem.writeWord s.p word)).setHalf .upper).setUHeld false).setEnv []).setInter []
  let u := ((t.setRunning true).setSlsStopped false).setCtl
    { t.ctl with mode1 := false, mode2 := false, exiting := false }
  if u.outOfBounds u.p then (u.setBu 0).setBl 0 else u

end Sys2Proof.Machine
end

