-- ==== Sys2Proof/Safety.lean ====
section
/-! DEFINITION. The terms in which claims speak: the invariant of the state, the state an instruction starts from, and
what follows its own effect. -/

namespace Sys2Proof.Machine

/-- The state that an instruction's own effect `t` leads to: the augment designators end with a lower instruction
(spec/10_state.md R36), then the sampling point takes a Category I interrupt where one is pending
(spec/60_exceptions.md R377). -/
def State.completed (before t : State) : State :=
  if (t.endAug before.half).pending then (t.endAug before.half).enter .one else t.endAug before.half

/-- An instruction is about to execute: no channel event falls inside it, and the step is not an
interrupt exit point, where only a taken normal jump may stand (spec/60_exceptions.md R379). -/
def State.Ready (s : State) : Prop := s.inter = [] ∧ s.atExit = false

/-- The designator and address field resolve, through any levels of indirect addressing, to the index register `r` (or
none) and the address `a` (spec/30_encoding.md R98). -/
def Resolves (b : Desig) (m : Addr) (s : State) (r : Option Ix) (a : Addr) : Prop :=
  resolve b m s = .ok ((r, a), s)

/-- M, Y or K of a designator and an address field, formed without stopping (spec/30_encoding.md R100). -/
def Effective (b : Desig) (m : Addr) (s : State) (a : Addr) : Prop := effective b m s = .ok (a, s)

/-- Byte key `k` lies outside the word at `a`. -/
def outsideWord (a : Addr) (k : Nat) : Prop := k < byteKey a 0 ∨ byteKey a 5 < k

/-- The addresses that only the hardware's own return jumps store to without a bounds check
(spec/20_memory.md R67). -/
def fixedLocations : List Addr := [0o0, 0o7, 0o20, 0o30, 0o31, 0o32, 0o33]

/-- What holds of the machine between two steps: storage is canonical; U holds a pending half only in the lower half
(spec/30_encoding.md R101); the augment designators are set only while the lower instruction after an AUG is pending
(spec/10_state.md R36); a computer stopped inside an SLS is not running (spec/10_state.md R37); an exit is in progress
only while the computer is stopped inside the exit's own jump (spec/60_exceptions.md R379); an Auto Load goes on only
while the computer is stopped with nothing pending (spec/70_reset_and_hazards.md R424). -/
structure State.Inv (s : State) : Prop where
  memory : s.mem.wf = true
  held : s.uHeld = true → s.half = .lower
  augment : s.aug ≠ .none → s.uHeld = true
  stopped : s.slsStopped = true → s.running = false
  exit : s.ctl.exiting = true → s.slsStopped = true ∧ s.half = .upper
  loading : s.autoLoading ≠ none → s.running = false ∧ s.slsStopped = false ∧ s.aug = .none

/-- A safe run of `n` steps: none of them stops. -/
def State.safeFor : Nat → State → Prop
  | 0, _ => True
  | n + 1, s =>
    match step s with
    | .next t => State.safeFor n t
    | .fault _ => False
    | .refused _ => False

end Sys2Proof.Machine
end

