-- ==== Sys2Proof/Certificates/Slice0/Obligations.lean ====
section
/-! DEFINITION. The statements for the provers. Each docstring names the rules of spec/ it formalises, and, after them,
the entries of the assumption log that hold the model's own choices on which a clause of it rests. -/

open Sys2Proof Sys2Proof.Machine

/-! ### Encoding -/

/-- Every instruction, with every operand at every value its fields admit, is what the decoder reads from its own
words (spec/30_encoding.md R91 to R95). -/
def Obligations.DecodeInvertsEncode : Prop := ∀ i : Instr, decode (encode i) = .instr i

/-- No word decodes to an instruction that is written otherwise: the bits of the word are those of its instruction
(spec/30_encoding.md R91 to R95, R107; log 15). -/
def Obligations.EncodeInvertsDecode : Prop :=
  (∀ (w : Word) (i : Instr), decodeAt w .lower = .instr i → encode i = .half (field w 0 24)) ∧
  (∀ (w : Word) (i : Instr), decodeAt w .upper = .instr i → (encode i).inWord (field w 0 24) = w)

/-- A few words written out from the formats of spec/30_encoding.md R91 to R94 decode to the instructions they stand
for: one of each class. The layout of the AUG word is reconstructed from a damaged figure (log 18). -/
def Obligations.ManualWords : Prop :=
  decode (.half 0o12100210#24) = .instr (.lda (.ix .b1) 0o210) ∧
  decode (.half 0o00700554#24) = .instr .iaq ∧
  decode (.half 0o75402000#24) = .instr (.rtj .always 0o2000) ∧
  decode (.half 0o77000432#24) = .instr (.inf 0o432) ∧
  decode (.half 0o77540000#24) = .instr (.eub 0o200) ∧
  decode (.half 0o77170000#24) = .instr (.aug .seven false false false) ∧
  decode (.whole 0o6301000650500200#48) = .instr (.stc .zero (.ix .b1) 0o200) ∧
  decode (.whole 0o7411000400000002#48) = .instr (.extf 0o10004 0 2)

/-- The illegal codes are 26, 27, 77.7 and, in the upper half, 74.7, and no others (spec/30_encoding.md R105; log
15). -/
def Obligations.IllegalCodes : Prop :=
  (∀ w : Word, decodeAt w .lower = .illegal ↔
    field w 18 6 = 0o26 ∨ field w 18 6 = 0o27 ∨ field w 15 9 = 0o777) ∧
  (∀ w : Word, decodeAt w .upper = .illegal ↔
    field w 42 6 = 0o26 ∨ field w 42 6 = 0o27 ∨ field w 39 9 = 0o777 ∨ field w 39 9 = 0o747)

/-! ### Sequencing -/

/-- A step of a running computer, with no event waiting, runs the decoded instruction: the half that U holds, or,
inside the bounds, the half of the step read at P, which goes into U (spec/30_encoding.md R101). In the upper half an
exit point is recognised first (spec/60_exceptions.md R379; log 7, log 8, log 19). -/
def Obligations.StepRunsInstruction : Prop :=
  ∀ (s : State) (i : Instr), s.env = [] → s.running = true →
    (s.uHeld = true → decodeAt s.u s.half = .instr i → step s = exec i s) ∧
    (s.uHeld = false → s.inter = [] → s.outOfBounds s.p = false → s.installed s.p = true →
      decodeAt (s.mem.readWord s.p) s.half = .instr i →
        (s.half = .lower → step s = exec i (s.setU (s.mem.readWord s.p))) ∧
        (s.half = .upper → step s = exec i (s.setU (s.mem.readWord s.p)).exitCheck))

/-- After an upper instruction comes the lower one of the same step, from U; after a lower instruction the upper one
of the step at P + 1, P counting modulo 2^15; a skip goes there from either half (spec/30_encoding.md R102, R103). -/
def Obligations.SequentialFlow : Prop :=
  ∀ s : State,
    (s.half = .upper → s.advance = (s.setHalf .lower).setUHeld true) ∧
    (s.half = .lower → s.advance = ((s.setP (s.p + 1)).setHalf .upper).setUHeld false) ∧
    s.skipLower = ((s.setP (s.p + 1)).setHalf .upper).setUHeld false ∧
    (s.p = 0o77777 → s.skipLower.p = 0)

/-- Executing an illegal code takes the Category III interrupt in its place, whether the half comes from U or from the
step at P: P + 1 goes into bits 38..24 of location 00020, whichever half held the code and whatever the bounds,
execution continues at the lower half of 00020, nothing else changes, and the sampling point follows
(spec/30_encoding.md R105, spec/60_exceptions.md R382; log 19, log 20). In the upper half the step is taken to be no
interrupt exit point. -/
def Obligations.IllegalCodeTrap : Prop :=
  ∀ s : State, s.env = [] → s.running = true → s.Ready →
    let trap := fun t : State =>
      ((((t.setMem (t.mem.writeWord 0o20 (setField (t.mem.readWord 0o20) 24 (t.p + 1)))).setP 0o20).setHalf
        .lower).setUHeld false)
    (s.uHeld = true → decodeAt s.u s.half = .illegal → step s = .next (s.completed (trap s))) ∧
    (s.uHeld = false → s.outOfBounds s.p = false → s.installed s.p = true →
      decodeAt (s.mem.readWord s.p) s.half = .illegal →
      (s.half = .upper → (s.setU (s.mem.readWord s.p)).exitCheck.ctl = s.ctl) →
        step s = .next (s.completed (trap (s.setU (s.mem.readWord s.p)))))

/-- A program step out of bounds is neither read nor executed: bit 42 is set and Category I is entered at once with
the pointer still at that step, whichever half was about to execute (spec/60_exceptions.md R393; log 20). -/
def Obligations.OutOfBoundsFetch : Prop :=
  ∀ s : State, s.env = [] → s.running = true → s.uHeld = false → s.inter = [] → s.outOfBounds s.p = true →
    step s = .next ((s.setFault 42).enter .one) ∧
    (s.setFault 42).interrupt.getLsbD 42 = true

/-! ### Operands and storage -/

/-- The one's complement adder on 15 and 48 bits: within the range the sum and the difference have their values, and a
zero result is +0 except for (-0) + (-0) and (-0) - (+0) (spec/00_scope.md R12). -/
def Obligations.OnesComplementAdder : Prop :=
  (∀ x y : Word, (ocVal x + ocVal y).natAbs < 2 ^ 47 → ocVal (ocadd x y) = ocVal x + ocVal y) ∧
  (∀ x y : Word, (ocVal x - ocVal y).natAbs < 2 ^ 47 → ocVal (ocsub x y) = ocVal x - ocVal y) ∧
  (∀ x y : Addr, (ocVal x + ocVal y).natAbs < 2 ^ 14 → ocVal (ocadd x y) = ocVal x + ocVal y) ∧
  (∀ x y : Addr, (ocVal x - ocVal y).natAbs < 2 ^ 14 → ocVal (ocsub x y) = ocVal x - ocVal y) ∧
  (∀ x y : Word, ocadd x y = BitVec.allOnes 48 ↔ x = BitVec.allOnes 48 ∧ y = BitVec.allOnes 48) ∧
  (∀ x y : Word, ocsub x y = BitVec.allOnes 48 ↔ x = BitVec.allOnes 48 ∧ y = 0) ∧
  (∀ x y : Addr, ocadd x y = BitVec.allOnes 15 ↔ x = BitVec.allOnes 15 ∧ y = BitVec.allOnes 15) ∧
  (∀ x y : Addr, ocsub x y = BitVec.allOnes 15 ↔ x = BitVec.allOnes 15 ∧ y = 0)

/-- A modified address equals 77777 only if the unmodified one does and there is no index register, or it holds 77777
(spec/30_encoding.md R99). -/
def Obligations.ModifiedAddress : Prop :=
  ∀ (s : State) (r : Option Ix) (m : Addr),
    s.modify r m = 0o77777 ↔ m = 0o77777 ∧ (r = none ∨ ∃ q, r = some q ∧ s.ix q = 0o77777)

/-- Indirect addressing: designator 0 names no index register, 1 to 6 an index register, and 7 makes one storage
reference whose word's bits 17..15 and 14..0 are the new designator and address, with no limit on the levels
(spec/30_encoding.md R98; log 13). -/
def Obligations.IndirectAddressing : Prop :=
  ∀ (s : State) (m : Addr), s.inter = [] →
    Resolves .zero m s none m ∧
    (∀ q, Resolves (.ix q) m s (some q) m) ∧
    (∀ r a, Resolves .seven m s r a ↔
      s.installed m = true ∧
        Resolves (.ofBits (field (s.mem.readWord m) 15 3)) (field (s.mem.readWord m) 0 15) s r a)

/-- A word that was written is read back, every other word is as it was, and storage stays canonical
(spec/20_memory.md R63, R64; the layout in bytes is the model's, log 1). -/
def Obligations.StorageReadAfterWrite : Prop :=
  ∀ (m : Memory) (a : Addr) (w : Word), m.wf = true →
    (m.writeWord a w).readWord a = w ∧
    (∀ c : Addr, c ≠ a → (m.writeWord a w).readWord c = m.readWord c) ∧
    (∀ k : Nat, outsideWord a k → (m.writeWord a w).readByte k = m.readByte k) ∧
    (m.writeWord a w).wf = true

/-! ### The interrupt system -/

/-- What follows an instruction's own effect `t`: a lower instruction ends the augment designators, and exactly where
the interrupt system is active, Category I is not locked out and some bit of the Product register is 1, Category I is
entered: the lockout and the Mode flip-flop are set, the Exit flip-flop says whether the next instruction is a lower
one, P goes into bits 38..24 of location 00007 (not bounds-checked), and execution continues at the lower half of
00007; nothing else changes (spec/60_exceptions.md R375, R377, R378; log 20). -/
def Obligations.CategoryOneEntry : Prop :=
  ∀ s t : State,
    let e := if s.half = .lower then t.setAug .none else t
    (e.ctl.active = true ∧ e.ctl.lock1 = false ∧ e.interrupt &&& e.mask ≠ 0 →
      s.completed t =
        (((((e.setCtl { e.ctl with lock1 := true, mode1 := true, exit1 := decide (e.half = .lower) }).setMem
          (e.mem.writeWord 0o7 (setField (e.mem.readWord 0o7) 24 e.p))).setP 0o7).setHalf .lower).setUHeld false)) ∧
    (¬(e.ctl.active = true ∧ e.ctl.lock1 = false ∧ e.interrupt &&& e.mask ≠ 0) → s.completed t = e)

/-- Without the floating point option FAD, FSB, FMU and FDV do nothing of their own: a Category II interrupt is
entered in their place at 00030, 00031, 00032 or 00033. The Exit flip-flop says whether the next instruction is a
lower one, the Mode flip-flop is set, the address of the step that holds the next instruction goes into bits 38..24 of
the fixed location, and execution continues at its lower half (spec/41_arithmetic.md R176, spec/60_exceptions.md R380;
log 20). -/
def Obligations.CategoryTwoEntry : Prop :=
  ∀ (s : State) (b : Desig) (m : Addr), s.Ready → s.cfg.hasFpo = false →
    let enter := fun (a : Addr) =>
      let ret := if s.half = .upper then s.p else s.p + 1
      (((((s.setCtl { s.ctl with mode2 := true, exit2 := decide (s.half = .upper), cat2Addr := a }).setMem
        (s.mem.writeWord a (setField (s.mem.readWord a) 24 ret))).setP a).setHalf .lower).setUHeld false)
    exec (.fad b m) s = .next (s.completed (enter 0o30)) ∧
    exec (.fsb b m) s = .next (s.completed (enter 0o31)) ∧
    exec (.fmu b m) s = .next (s.completed (enter 0o32)) ∧
    exec (.fdv b m) s = .next (s.completed (enter 0o33))

/-- An interrupt returns where it came from. After the entry of Category I, with a jump in the upper half of 00007 and
the routine having left the stored address and the Exit flip-flop alone, the step entered at 00007 in the upper half
clears the lockout and the Mode flip-flop and lands at the pointer that the interrupt found. After the entry of
Category II the step entered at the operation's fixed location clears its Mode flip-flop and lands at the instruction
after the operation. In both, a condition still selected may then be taken (spec/60_exceptions.md R378 to R381; log
19, log 20). -/
def Obligations.InterruptRoundTrip : Prop :=
  ∀ s r : State, s.mem.wf = true → r.env = [] → r.inter = [] → r.running = true → r.uHeld = false →
    r.half = .upper →
    let returns := fun (a target : Addr) (h : Half) (c : IntCtl) =>
      let back := (((r.setU (r.mem.readWord a)).setP target).setHalf h).setCtl c
      back.outOfBounds target = false → step r = .next (if back.pending then back.enter .one else back)
    (field (s.mem.readWord 0o7) 39 9 = 0o750 → r.mem.readWord 0o7 = (s.enter .one).mem.readWord 0o7 →
      r.ctl.exit1 = (s.enter .one).ctl.exit1 → r.p = 0o7 → r.ctl.mode1 = true → r.ctl.lock1 = true →
      returns 0o7 s.p s.half
        { r.ctl with lock1 := false, mode1 := false, exitSel := r.ctl.exit1, exiting := false }) ∧
    (∀ k : FpKind,
      let a := fixedLocation k
      field (s.mem.readWord a) 39 9 = 0o750 → r.mem.readWord a = (s.enter (.two k)).mem.readWord a →
      r.ctl.exit2 = (s.enter (.two k)).ctl.exit2 → r.ctl.cat2Addr = a → r.p = a → r.ctl.mode2 = true →
      r.outOfBounds a = false →
      returns a s.advance.p s.advance.half
        { r.ctl with mode2 := false, exitSel := r.ctl.exit2, exiting := false })

/-- At an interrupt exit point, of either category, a normal jump that is taken lands at its target in the half that the
Exit flip-flop gave, and the exit is over: AJP, QJP, SLJ, IJP, and SLS where it does not stop. A jump that is not taken,
for its condition or for the bounds, and every other instruction that would go on elsewhere, are refused, the model's
choice; no other instruction goes on there, but SLS and SRJ may stop. That SLJ reads a switch which is set as set also
while the console is locked out is the model's choice (log 28) (spec/60_exceptions.md R379, R381,
spec/44_jumps_stops.md R243 to R252; log 19, log 20, log 28; 77777 in IJP's register, log 17). -/
def Obligations.ExitPointNeedsJump : Prop :=
  ∀ s : State, s.atExit = true →
    let elsewhere := s.setCtl { s.ctl with exiting := false }
    let lands := fun (t : State) (m : Addr) =>
      s.completed ((((t.setP m).setUHeld false).setHalf (if s.ctl.exitSel = true then .lower else .upper)).setCtl
        { s.ctl with exiting := false })
    let zero := fun x : Word => x = 0 ∨ x = BitVec.allOnes 48
    let stopped := (s.setRunning false).setSlsStopped true
    let stops := fun j => s.stopCond j = true
    let forms := fun (i : Instr) (m : Addr) (c : Prop) =>
      (c → s.outOfBounds m = false → exec i s = .next (lands s m)) ∧
      (c → s.outOfBounds m = true → exec i s = .refused .exitNotJump) ∧
      (¬c → exec i s = .refused .exitNotJump)
    (s.inter = [] → ∀ m,
      forms (.ajp .zero m) m (zero s.a) ∧ forms (.ajp .nonzero m) m (¬zero s.a) ∧
      forms (.ajp .positive m) m (s.a.getLsbD 47 = false) ∧ forms (.ajp .negative m) m (s.a.getLsbD 47 = true) ∧
      forms (.qjp .zero m) m (zero s.q) ∧ forms (.qjp .nonzero m) m (¬zero s.q) ∧
      forms (.qjp .positive m) m (s.q.getLsbD 47 = false) ∧ forms (.qjp .negative m) m (s.q.getLsbD 47 = true) ∧
      forms (.slj .always m) m True ∧ forms (.slj .sw1 m) m (s.console.jump1 = true) ∧
      forms (.slj .sw2 m) m (s.console.jump2 = true) ∧ forms (.slj .sw3 m) m (s.console.jump3 = true) ∧
      (∀ j, (stops j → exec (.sls j m) s = .next stopped) ∧ (¬stops j → forms (.sls j m) m True)) ∧
      (∀ j, stops j → exec (.srj j m) s = .next stopped) ∧
      (∀ b a, Resolves b m s none a → exec (.ijp b m) s = .refused .exitNotJump) ∧
      (∀ b a r, Resolves b m s (some r) a →
        (s.ix r = 0o77777 → exec (.ijp b m) s = .refused .negativeZeroIndex) ∧
        (s.ix r = 0 → exec (.ijp b m) s = .refused .exitNotJump) ∧
        (s.ix r ≠ 0 → s.ix r ≠ 0o77777 →
          (s.outOfBounds a = false → exec (.ijp b m) s = .next (lands (s.setIx r (s.ix r - 1)) a)) ∧
          (s.outOfBounds a = true → exec (.ijp b m) s = .refused .exitNotJump)))) ∧
    (∀ (i : Instr) (t : State), exec i s = .next t →
      (∃ j m, i = .ajp j m) ∨ (∃ j m, i = .qjp j m) ∨ (∃ j m, i = .slj j m) ∨ (∃ b m, i = .ijp b m) ∨
        (∃ j m, i = .sls j m) ∨ ((∃ j m, i = .srj j m) ∧ t = stopped)) ∧
    (s.inter = [] → ∀ (i : Instr) (t : State),
      (∀ j m, i ≠ .ajp j m) → (∀ j m, i ≠ .qjp j m) → (∀ j m, i ≠ .slj j m) → (∀ b m, i ≠ .ijp b m) →
      (∀ j m, i ≠ .sls j m) → (∀ j m, i = .srj j m → ¬stops j) →
        exec i elsewhere = .next t → exec i s = .refused .exitNotJump)

/-- Interrupt conditions are sticky: no instruction but INF clears a flip-flop of the Interrupt register, except that
CLCH clears the parity bit of its own channel (spec/60_exceptions.md R373, R398; log 21). -/
def Obligations.InterruptBitsSticky : Prop :=
  ∀ (i : Instr) (s t : State) (n : Nat), exec i s = .next t → (∀ y, i ≠ .inf y) →
    (∀ x, i = .clch x → n ≠ 20 + x.toNat) → s.intr.getLsbD n = true → t.intr.getLsbD n = true

/-- While bounds checking is in effect no instruction changes a word outside the bounds, but for the fixed locations
that the hardware's own return jumps store to (spec/60_exceptions.md R393, spec/20_memory.md R67, R73; log 20). The
channels' own references, which are not checked, are taken not to fall inside the instruction. -/
def Obligations.BoundsProtectStorage : Prop :=
  ∀ (i : Instr) (s t : State) (a : Addr), s.mem.wf = true → s.inter = [] → s.outOfBounds a = true →
    a ∉ fixedLocations → exec i s = .next t → t.mem.readWord a = s.mem.readWord a

/-- Which registers an instruction may change. Only the instructions named write A, Q, an index register, a bounds
register or the Interrupt Mask register; no instruction changes the console, the installation or what the world does
next (spec/10_state.md R20, R21, R23, R29, R34, R39). -/
def Obligations.RegisterFrame : Prop :=
  ∀ (i : Instr) (s t : State), exec i s = .next t →
    (t.cfg = s.cfg ∧ t.console = s.console ∧ t.env = s.env) ∧
    ((∀ y, i ≠ .eub y) → t.bu = s.bu) ∧ ((∀ y, i ≠ .elb y) → t.bl = s.bl) ∧
    ((∀ y, i ≠ .inf y) → t.mask = s.mask) ∧
    (t.a ≠ s.a →
      i = .iaq ∨ i = .cis ∨ i = .cpr ∨ (∃ x, i = .copy x ∨ i = .ccwd x) ∨ (∃ b v m, i = .ldc b v m) ∨
      (∃ b m, i = .lda b m ∨ i = .lac b m ∨ i = .ena b m ∨ i = .add b m ∨ i = .sub b m ∨ i = .mui b m ∨
        i = .dvi b m ∨ i = .ina b m ∨ i = .sst b m ∨ i = .scl b m ∨ i = .scm b m ∨ i = .ssu b m ∨ i = .ldl b m ∨
        i = .adl b m ∨ i = .sbl b m ∨ i = .ars b m ∨ i = .lrs b m ∨ i = .als b m ∨ i = .lls b m ∨ i = .sca b m ∨
        i = .scq b m ∨ i = .rad b m ∨ i = .rsb b m ∨ i = .rao b m ∨ i = .rso b m ∨ i = .fad b m ∨ i = .fsb b m ∨
        i = .fmu b m ∨ i = .fdv b m)) ∧
    (t.q ≠ s.q →
      i = .iaq ∨ (∃ x, i = .copy x) ∨
      (∃ b m, i = .ldq b m ∨ i = .lqc b m ∨ i = .enq b m ∨ i = .mui b m ∨ i = .dvi b m ∨ i = .qrs b m ∨
        i = .lrs b m ∨ i = .qls b m ∨ i = .lls b m ∨ i = .scq b m ∨ i = .fad b m ∨ i = .fsb b m ∨ i = .fmu b m ∨
        i = .fdv b m)) ∧
    (t.b ≠ s.b →
      (∃ b, i = .ati b) ∨
      (∃ b m, i = .liu b m ∨ i = .lil b m ∨ i = .eni b m ∨ i = .ini b m ∨ i = .isk b m ∨ i = .sca b m ∨
        i = .scq b m ∨ i = .eqs b m ∨ i = .ths b m ∨ i = .meq b m ∨ i = .mth b m ∨ i = .ijp b m))

/-! ### The invariant -/

/-- Every step keeps the invariant, from every state that has it (spec/30_encoding.md R101, spec/10_state.md R36, R37,
spec/60_exceptions.md R379, spec/70_reset_and_hazards.md R424; storage's canonical form is the model's, log 1, log
7). -/
def Obligations.StepKeepsInvariant : Prop := ∀ s t : State, s.Inv → step s = .next t → t.Inv

/-- The machine after reset has the invariant. -/
def Obligations.ResetInvariant : Prop := State.reset.Inv

/-! ### Reset and the operator (spec/70_reset_and_hazards.md) -/

/-- After System Active goes from Off to On, from any state: the Mask register is zero, the interrupt system's flip-flops
and the augment designators are clear, the computer is stopped, every installed channel is inactive with a zero control
word and nothing connected, and of the Interrupt register's flip-flops only the 10 + x of a channel that was active
are set, because the external master clear ends its operation after the internal one; the bounds registers, storage and
the channels that are not installed are unchanged. A switch that is on already does nothing, the model's choice (log 27).
State.reset is such a state, with a zero Interrupt register and canonical storage, the model's choice (spec/10_state.md
R42, R420 to R422; log 3, log 4, log 5, log 26, log 27). -/
def Obligations.ResetValues : Prop :=
  (∀ (s : State) (rest : List Event), s.env = .systemOn :: rest →
    (s.console.systemActive = true → step s = .next (s.setEnv rest)) ∧
    (s.console.systemActive = false →
      ∃ t, step s = .next t ∧
        t.env = rest ∧ t.console = { s.console with systemActive := true } ∧ t.mask = 0 ∧
        t.ctl.active = false ∧ t.ctl.lock1 = false ∧ t.ctl.mode1 = false ∧ t.ctl.exit1 = false ∧
        t.ctl.mode2 = false ∧ t.ctl.exit2 = false ∧ t.ctl.timeArmed = false ∧ t.aug = .none ∧ t.running = false ∧
        t.slsStopped = false ∧
        (∀ x, s.chanInstalled x = true →
          (t.chan x).active = false ∧ (t.chan x).wc = 0 ∧ (t.chan x).ca = 0 ∧ (t.chan x).conn = none) ∧
        (∀ x, s.chanInstalled x = false → t.chan x = s.chan x) ∧
        (∀ n, t.intr.getLsbD n = true ↔
          ∃ x, s.chanInstalled x = true ∧ (s.chan x).active = true ∧ n = 10 + x.index) ∧
        t.bu = s.bu ∧ t.bl = s.bl ∧ t.mem = s.mem ∧ t.cfg = s.cfg)) ∧
  State.reset.interrupt = 0 ∧ State.reset.mask = 0 ∧
  State.reset.ctl.active = false ∧ State.reset.ctl.lock1 = false ∧ State.reset.ctl.mode1 = false ∧
  State.reset.ctl.exit1 = false ∧ State.reset.ctl.mode2 = false ∧ State.reset.ctl.exit2 = false ∧
  State.reset.ctl.timeArmed = false ∧ State.reset.aug = .none ∧ State.reset.running = false ∧
  State.reset.slsStopped = false ∧
  (∀ x, (State.reset.chan x).active = false ∧ (State.reset.chan x).wc = 0 ∧ (State.reset.chan x).ca = 0 ∧
    (State.reset.chan x).conn = none) ∧
  State.reset.mem.wf = true

/-- The internal master clear: Interrupt and Mask registers, the interrupt system's flip-flops, Aug and the run state
are cleared; the bounds registers, storage and the channels are unchanged (spec/70_reset_and_hazards.md R420; log
5). -/
def Obligations.InternalMasterClear : Prop :=
  ∀ s : State,
    let t := s.internalMasterClear
    t.intr = 0 ∧ t.mask = 0 ∧ t.ctl.active = false ∧ t.ctl.lock1 = false ∧ t.ctl.mode1 = false ∧
    t.ctl.exit1 = false ∧ t.ctl.mode2 = false ∧ t.ctl.exit2 = false ∧ t.ctl.timeArmed = false ∧ t.aug = .none ∧
    t.slsStopped = false ∧ t.running = false ∧
    t.bu = s.bu ∧ t.bl = s.bl ∧ t.mem = s.mem ∧ t.chans = s.chans ∧ t.equip = s.equip

/-- The external master clear: every installed channel is disconnected, its control word zero and the channel inactive;
one that was active sets its bit 10 + x and its equipments see the operation's end; its parity bit 20 + x is cleared,
and every equipment on it has its master clear. The other Interrupt flip-flops, a channel that is not installed, the
registers, the Mask register, the interrupt system's flip-flops, the bounds registers and storage are unchanged. That the
equipments see the operation's end before their clear (a card in part loaded is punched, a tape's check character is
written) is the model's choice (log 31) (spec/70_reset_and_hazards.md R421; log 5, log 21, log 24, log 26, log 29, log
31). -/
def Obligations.ExternalMasterClear : Prop :=
  ∀ s : State, s.autoLoading = none →
    let t := s.externalMasterClear
    let ends := fun (es : List Attached) (x : ChanId) =>
      if (s.chan x).active = true then onChannel x (fun e => e.device.endTransfer (s.chan x).dir) es else es
    (∀ x, s.chanInstalled x = true →
      t.chan x = { s.chan x with active := false, conn := none, wc := 0, ca := 0 } ∧
      t.intr.getLsbD (10 + x.index) = (s.intr.getLsbD (10 + x.index) || (s.chan x).active) ∧
      t.intr.getLsbD (20 + x.index) = false) ∧
    (∀ x, s.chanInstalled x = false → t.chan x = s.chan x) ∧
    (∀ n, (∀ x, s.chanInstalled x = true → n ≠ 10 + x.index ∧ n ≠ 20 + x.index) →
      t.intr.getLsbD n = s.intr.getLsbD n) ∧
    t.equip =
      [ChanId.c0, .c1, .c2, .c3].foldl
        (fun es x =>
          if s.chanInstalled x = true then onChannel x (fun e => e.device.masterClear) (ends es x) else es) s.equip ∧
    t.a = s.a ∧ t.q = s.q ∧ t.b = s.b ∧ t.p = s.p ∧ t.half = s.half ∧ t.u = s.u ∧ t.mask = s.mask ∧
    t.ctl = s.ctl ∧ t.bu = s.bu ∧ t.bl = s.bl ∧ t.mem = s.mem ∧ t.running = s.running

/-- The Restart switch, where it is not locked out: an external master clear, Interrupt Active clear, P + 1 into bits
38..24 of location 00000 without a bounds check, and the computer runs from the lower half of 00000; the Interrupt
Mask register, the lockout, the Mode and Exit flip-flops, the bounds registers, A, Q and the index registers are as
they were (spec/70_reset_and_hazards.md R421, R423; log 5,
log 20, log 28). -/
def Obligations.RestartSwitch : Prop :=
  ∀ (s : State) (rest : List Event), s.env = .restart :: rest →
    (s.console.systemActive = true ∨ s.console.maintenance = true) → s.mem.wf = true →
      ∃ t, step s = .next t ∧ t.env = rest ∧
        t.p = 0 ∧ t.half = .lower ∧ t.uHeld = false ∧ t.running = true ∧ t.slsStopped = false ∧ t.aug = .none ∧
        t.mem = s.mem.writeWord 0 (setField (s.mem.readWord 0) 24 (s.p + 1)) ∧
        t.ctl.active = false ∧ t.ctl.lock1 = s.ctl.lock1 ∧ t.ctl.mode1 = s.ctl.mode1 ∧ t.ctl.exit1 = s.ctl.exit1 ∧
        t.ctl.mode2 = s.ctl.mode2 ∧ t.ctl.exit2 = s.ctl.exit2 ∧
        t.mask = s.mask ∧ t.bu = s.bu ∧ t.bl = s.bl ∧ t.a = s.a ∧ t.q = s.q ∧ t.b = s.b ∧
        (∀ x, s.chanInstalled x = true → (t.chan x).active = false ∧ (t.chan x).conn = none ∧ (t.chan x).wc = 0 ∧
          (t.chan x).ca = 0)

/-- The manual interrupt and the time interrupt: the Manual Interrupt switch sets bit 43 only while Mask bit 43 is
set; a line tick sets bit 44 only while the time interrupt is armed, and disarms it (spec/60_exceptions.md R394, R395;
log 23). -/
def Obligations.ManualAndTimeInterrupts : Prop :=
  ∀ (s : State) (rest : List Event),
    (s.env = .manualInterrupt :: rest → (s.console.systemActive = true ∨ s.console.maintenance = true) →
      step s = .next (if s.mask.getLsbD 43 then (s.setEnv rest).setIntr (s.intr ||| bitWord 43) else s.setEnv rest)) ∧
    (s.env = .lineTick :: rest →
      step s = .next (if s.ctl.timeArmed then
        ((s.setEnv rest).setIntr (s.intr ||| bitWord 44)).setCtl { s.ctl with timeArmed := false }
        else s.setEnv rest))

/-! ### Transmission (spec/40_transmission.md) -/

/-- IAQ interchanges all 48 bits of A and Q and changes nothing else (R130). -/
def Obligations.InterchangeAQ : Prop :=
  ∀ s : State, s.Ready → exec .iaq s = .next (s.completed ((s.setA s.q).setQ s.a).advance)

/-- LDA, LDQ, LAC and LQC put the word at M, or its complement, in their register, bit for bit, and change nothing
else; under an AUG with t2 LDA and LDQ take the magnitude, the complement of a word whose bit 47 is 1 (R131 to R134,
spec/45_character_internal.md R285; log 18). A read is permitted out of bounds. -/
def Obligations.LoadRegister : Prop :=
  ∀ (s : State) (b : Desig) (m a : Addr), s.Ready → Effective b m s a → s.installed a = true →
    let x := s.mem.readWord a
    let y := if s.aug.t2 = true ∧ x.getLsbD 47 = true then ~~~x else x
    exec (.lda b m) s = .next (s.completed (s.setA y).advance) ∧
    exec (.ldq b m) s = .next (s.completed (s.setQ y).advance) ∧
    exec (.lac b m) s = .next (s.completed (s.setA (~~~x)).advance) ∧
    exec (.lqc b m) s = .next (s.completed (s.setQ (~~~x)).advance)

/-- STA, STQ and STL store A, Q and their logical product at M: the word at M becomes that, every byte of storage
outside it is as it was, and nothing else changes; under an AUG with t2 STA and STQ store the magnitude and leave the
register. Out of bounds the write is not performed and bit 42 is set (R135, R136, spec/42_logical_shift.md R198,
spec/45_character_internal.md R285, spec/60_exceptions.md R393; log 18, log 20). -/
def Obligations.StoreRegister : Prop :=
  ∀ (s : State) (b : Desig) (m a : Addr), s.Ready → s.mem.wf = true → Effective b m s a →
    let y := fun x : Word => if s.aug.t2 = true ∧ x.getLsbD 47 = true then ~~~x else x
    let stores := fun (i : Instr) (w : Word) =>
      (s.outOfBounds a = true → exec i s = .next (s.completed (s.setIntr (s.intr ||| bitWord 42)).advance)) ∧
      (s.outOfBounds a = false → s.installed a = true →
        ∃ v, exec i s = .next (s.completed (s.setMem v).advance) ∧ v.readWord a = w ∧
          ∀ k, outsideWord a k → v.readByte k = s.mem.readByte k)
    stores (.sta b m) (y s.a) ∧ stores (.stq b m) (y s.q) ∧ stores (.stl b m) (s.q &&& s.a)

/-- LIU and LIL load an index register with bits 38..24 or 14..0 of the word at the unmodified address; where no index
register is named they are passes (R137 to R139). -/
def Obligations.LoadIndex : Prop :=
  ∀ (s : State) (b : Desig) (m a : Addr), s.Ready → s.installed a = true →
    (∀ r, Resolves b m s (some r) a →
      exec (.liu b m) s = .next (s.completed (s.setIx r (field (s.mem.readWord a) 24 15)).advance) ∧
      exec (.lil b m) s = .next (s.completed (s.setIx r (field (s.mem.readWord a) 0 15)).advance)) ∧
    (Resolves b m s none a →
      exec (.liu b m) s = .next (s.completed s.advance) ∧ exec (.lil b m) s = .next (s.completed s.advance))

/-- SIU and SIL replace bits 38..24 or 14..0 of the word at the unmodified address by the index register, or by zeros
where none is named; SAU and SAL replace them in the word at M by bits 14..0 of A. The other bits of the word, every
other byte of storage and everything else are unchanged; out of bounds nothing is written and bit 42 is set (R140 to
R143, spec/60_exceptions.md R393; log 20). -/
def Obligations.StoreAddressPortion : Prop :=
  ∀ (s : State) (b : Desig) (m a : Addr), s.Ready → s.mem.wf = true →
    let stores := fun (i : Instr) (lo : Nat) (w : Addr) =>
      (s.outOfBounds a = true → exec i s = .next (s.completed (s.setIntr (s.intr ||| bitWord 42)).advance)) ∧
      (s.outOfBounds a = false → s.installed a = true →
        ∃ v, exec i s = .next (s.completed (s.setMem v).advance) ∧
          (∀ j, (v.readWord a).getLsbD j =
            if lo ≤ j ∧ j < lo + 15 then w.getLsbD (j - lo) else (s.mem.readWord a).getLsbD j) ∧
          ∀ k, outsideWord a k → v.readByte k = s.mem.readByte k)
    (∀ r, Resolves b m s r a →
      stores (.siu b m) 24 (match r with | none => 0 | some q => s.ix q) ∧
      stores (.sil b m) 0 (match r with | none => 0 | some q => s.ix q)) ∧
    (Effective b m s a → stores (.sau b m) 24 (field s.a 0 15) ∧ stores (.sal b m) 0 (field s.a 0 15))

/-- ENA and ENQ enter Y with its bit 14 extended through bits 47..15; ENI enters the unmodified operand in an index
register, and is a pass where none is named (R144 to R146). -/
def Obligations.EnterRegister : Prop :=
  ∀ (s : State) (b : Desig) (y k : Addr), s.Ready →
    (Effective b y s k →
      ∃ w : Word, (∀ j, j < 48 → w.getLsbD j = if j < 15 then k.getLsbD j else k.getLsbD 14) ∧
        exec (.ena b y) s = .next (s.completed (s.setA w).advance) ∧
        exec (.enq b y) s = .next (s.completed (s.setQ w).advance)) ∧
    (∀ r, Resolves b y s (some r) k → exec (.eni b y) s = .next (s.completed (s.setIx r k).advance)) ∧
    (Resolves b y s none k → exec (.eni b y) s = .next (s.completed s.advance))

/-- ATI transmits bits 14..0 of A to index register 1 to 6; b = 0 and b = 7 are undefined and refused (R147; log
16). -/
def Obligations.TransmitToIndex : Prop :=
  ∀ s : State, s.Ready →
    (∀ r, exec (.ati (.ix r)) s = .next (s.completed (s.setIx r (field s.a 0 15)).advance)) ∧
    exec (.ati .zero) s = .refused .atiDesignator ∧ exec (.ati .seven) s = .refused .atiDesignator

/-! ### Arithmetic (spec/41_arithmetic.md, spec/42_logical_shift.md R196, R197) -/

/-- ADD, SUB, ADL, SBL and INA within the range of A: A becomes the one's complement word of the exact sum or
difference, with the stated zeros, and nothing else changes (R162, R163, R180, spec/42_logical_shift.md R196, R197;
log 18). `d` is +1 for an addition and -1 for a subtraction. -/
def Obligations.AddWithinRange : Prop :=
  ∀ (s : State) (b : Desig) (m a : Addr), s.Ready → Effective b m s a →
    let x := s.mem.readWord a
    let y := if s.aug.t2 = true ∧ x.getLsbD 47 = true then ~~~x else x
    let forms := fun (i : Instr) (d : Int) (z : Word) =>
      (ocVal s.a + d * ocVal z).natAbs < 2 ^ 47 →
        ∃ v : Word, exec i s = .next (s.completed (s.setA v).advance) ∧ ocVal v = ocVal s.a + d * ocVal z ∧
          (v = BitVec.allOnes 48 ↔ s.a = BitVec.allOnes 48 ∧ z = if d = 1 then BitVec.allOnes 48 else 0)
    (s.installed a = true →
      forms (.add b m) 1 y ∧ forms (.sub b m) (-1) y ∧
      forms (.adl b m) 1 (s.q &&& x) ∧ forms (.sbl b m) (-1) (s.q &&& x)) ∧
    forms (.ina b m) 1 (a.signExtend 48)

/-- ADD, SUB, ADL, SBL and INA outside the range of A: bit 03 of the Interrupt register is set and the instruction
completes; A is left open, and nothing else of the machine changes (R161; the free value is the model's form of the
open one, log 10, log 18). -/
def Obligations.AddOverflow : Prop :=
  ∀ (s : State) (b : Desig) (m a : Addr), s.Ready → Effective b m s a →
    let x := s.mem.readWord a
    let y := if s.aug.t2 = true ∧ x.getLsbD 47 = true then ~~~x else x
    let faults := fun (i : Instr) (d : Int) (z : Word) =>
      2 ^ 47 ≤ (ocVal s.a + d * ocVal z).natAbs →
        ∃ v : Word, exec i s = .next (s.completed
          (((s.setIntr (s.intr ||| bitWord 3)).setFreeCount (s.freeCount + 1)).setA v).advance)
    (s.installed a = true →
      faults (.add b m) 1 y ∧ faults (.sub b m) (-1) y ∧
      faults (.adl b m) 1 (s.q &&& x) ∧ faults (.sbl b m) (-1) (s.q &&& x)) ∧
    faults (.ina b m) 1 (a.signExtend 48)

/-- MUI leaves in QA the 96-bit one's complement word of the product of A and the operand; a zero product is +0 or -0,
which one is open; nothing else of the machine changes and there is no fault (R164; log 11, log 18). -/
def Obligations.MultiplyInteger : Prop :=
  ∀ (s : State) (b : Desig) (m a : Addr), s.Ready → Effective b m s a → s.installed a = true →
    let x := s.mem.readWord a
    let y := if s.aug.t2 = true ∧ x.getLsbD 47 = true then ~~~x else x
    ∃ (q' a' : Word) (n : Nat),
      exec (.mui b m) s = .next (s.completed (((s.setFreeCount n).setQ q').setA a').advance) ∧
      ocVal (q' ++ a' : BitVec 96) = ocVal s.a * ocVal y ∧
      (ocVal s.a * ocVal y = 0 → (q' = 0 ∧ a' = 0) ∨ (q' = BitVec.allOnes 48 ∧ a' = BitVec.allOnes 48))

/-- DVI divides QA: the quotient, truncated toward zero, goes to A and the remainder, with the sign of the dividend,
to Q; nothing else of the machine changes (R165; the sign of a zero quotient is open, log 11, log 18). -/
def Obligations.DivideInteger : Prop :=
  ∀ (s : State) (b : Desig) (m a : Addr), s.Ready → Effective b m s a → s.installed a = true →
    let x := s.mem.readWord a
    let y := if s.aug.t2 = true ∧ x.getLsbD 47 = true then ~~~x else x
    let n := ocVal (s.q ++ s.a : BitVec 96)
    ocVal y ≠ 0 → (n.tdiv (ocVal y)).natAbs < 2 ^ 47 →
      ∃ (q' a' : Word) (c : Nat),
        exec (.dvi b m) s = .next (s.completed (((s.setFreeCount c).setA a').setQ q').advance) ∧
        n = ocVal a' * ocVal y + ocVal q' ∧ (ocVal q').natAbs < (ocVal y).natAbs ∧
        (q'.getLsbD 47 = s.q.getLsbD 47)

/-- DVI by +0 or -0, or with a quotient of 2^47 or more, sets bit 02 of the Interrupt register and completes; A and Q
are left open, and nothing else of the machine changes (R166; log 11, log 18). -/
def Obligations.DivideFault : Prop :=
  ∀ (s : State) (b : Desig) (m a : Addr), s.Ready → Effective b m s a → s.installed a = true →
    let x := s.mem.readWord a
    let y := if s.aug.t2 = true ∧ x.getLsbD 47 = true then ~~~x else x
    (ocVal y = 0 ∨ 2 ^ 47 ≤ ((ocVal (s.q ++ s.a : BitVec 96)).tdiv (ocVal y)).natAbs) →
      ∃ q' a' : Word, exec (.dvi b m) s = .next (s.completed
        ((((s.setIntr (s.intr ||| bitWord 2)).setFreeCount (s.freeCount + 2)).setA a').setQ q').advance)

/-- With the floating point option FAD, FSB, FMU and FDV put the open function's results in A and Q and set bit 04
where the exponent formed exceeds 1777 octal, bit 05 where it is below -1777 octal, and bit 02 for FDV by a floating
point zero, and nothing else (R171 to R175; the function itself is open, log 12, log 18). -/
def Obligations.FloatingPoint : Prop :=
  ∀ (s : State) (b : Desig) (m a : Addr), s.Ready → s.cfg.hasFpo = true → Effective b m s a → s.installed a = true →
    let x := s.mem.readWord a
    let y := if s.aug.t2 = true ∧ x.getLsbD 47 = true then ~~~x else x
    let does := fun (i : Instr) (k : FpKind) =>
      let r := Config.fp k s.a y s.aug.t0 s.aug.t1
      ∃ w : Word,
        exec i s = .next (s.completed (((s.setA r.a).setQ r.q).setIntr w).advance) ∧
        ∀ n, n < 48 → w.getLsbD n = (s.intr.getLsbD n || (n == 4 && decide (0o1777 < r.exponent)) ||
          (n == 5 && decide (r.exponent < -0o1777)) || (n == 2 && k == .div && Config.fpIsZero y))
    does (.fad b m) .add ∧ does (.fsb b m) .sub ∧ does (.fmu b m) .mul ∧ does (.fdv b m) .div

/-- INI adds y to an index register in 15-bit one's complement. ISK compares the 15 bits of the register, 0 where none
is named, with y: equal, the register is cleared and the lower instruction skipped; unequal, the register is increased
by one. Where no register is named nothing is written (R181, R182; log 34). -/
def Obligations.IndexArithmetic : Prop :=
  ∀ (s : State) (b : Desig) (y k : Addr), s.Ready →
    (∀ r, Resolves b y s (some r) k →
      exec (.ini b y) s = .next (s.completed (s.setIx r (ocadd (s.ix r) k)).advance) ∧
      (s.ix r = k → exec (.isk b y) s = .next (s.completed (s.setIx r 0).nextStep)) ∧
      (s.ix r ≠ k → exec (.isk b y) s = .next (s.completed (s.setIx r (ocadd (s.ix r) 1)).advance))) ∧
    (Resolves b y s none k →
      exec (.ini b y) s = .next (s.completed s.advance) ∧
      (k = 0 → exec (.isk b y) s = .next (s.completed s.nextStep)) ∧
      (k ≠ 0 → exec (.isk b y) s = .next (s.completed s.advance)))

/-! ### Logic, shifts and scaling (spec/42_logical_shift.md) -/

/-- SST, SCL, SCM, SSU and LDL combine A, Q and the word at M bit by bit into A, and change nothing else (R191 to
R195). -/
def Obligations.LogicalOps : Prop :=
  ∀ (s : State) (b : Desig) (m a : Addr), s.Ready → Effective b m s a → s.installed a = true →
    let x := s.mem.readWord a
    let forms := fun (i : Instr) (f : Bool → Bool → Bool → Bool) =>
      ∃ v : Word, (∀ n, n < 48 → v.getLsbD n = f (s.a.getLsbD n) (s.q.getLsbD n) (x.getLsbD n)) ∧
        exec i s = .next (s.completed (s.setA v).advance)
    forms (.sst b m) (fun an _ xn => an || xn) ∧
    forms (.scl b m) (fun an _ xn => an && !xn) ∧
    forms (.scm b m) (fun an _ xn => an != xn) ∧
    forms (.ssu b m) (fun an qn xn => if qn then xn else an) ∧
    forms (.ldl b m) (fun _ qn xn => qn && xn)

/-- The six shifts, by the lower 7 bits of K: to the right with the sign extended, to the left circular, of A, Q or
the 96-bit AQ. A K above 177 octal sets bit 01 of the Interrupt register; nothing else changes (R200 to R206). -/
def Obligations.Shifts : Prop :=
  ∀ (s : State) (b : Desig) (k n : Addr), s.Ready → Effective b k s n →
    let c := n.toNat % 128
    let t := if 127 < n.toNat then s.setIntr (s.intr ||| bitWord 1) else s
    let right := fun (w : Nat) (x v : BitVec w) =>
      ∀ i, i < w → v.getLsbD i = if i + c ≤ w - 1 then x.getLsbD (i + c) else x.getLsbD (w - 1)
    let left := fun (w : Nat) (x v : BitVec w) => ∀ i, i < w → v.getLsbD ((i + c) % w) = x.getLsbD i
    (∃ v, right 48 s.a v ∧ exec (.ars b k) s = .next (s.completed (t.setA v).advance)) ∧
    (∃ v, right 48 s.q v ∧ exec (.qrs b k) s = .next (s.completed (t.setQ v).advance)) ∧
    (∃ v w : Word, right 96 (s.a ++ s.q) (v ++ w) ∧
      exec (.lrs b k) s = .next (s.completed ((t.setA v).setQ w).advance)) ∧
    (∃ v, left 48 s.a v ∧ exec (.als b k) s = .next (s.completed (t.setA v).advance)) ∧
    (∃ v, left 48 s.q v ∧ exec (.qls b k) s = .next (s.completed (t.setQ v).advance)) ∧
    (∃ v w : Word, left 96 (s.a ++ s.q) (v ++ w) ∧
      exec (.lls b k) s = .next (s.completed ((t.setA v).setQ w).advance))

/-- SCA and SCQ shift left circular by the least number n of places that brings a bit different from the sign bit next
to it, at most the lower 7 bits of k, and none where the register is +0 or -0; k - n goes to the index register, where
one is named. No fault bit is set and nothing else changes (R210 to R212; log 33). -/
def Obligations.Scale : Prop :=
  ∀ (s : State) (b : Desig) (k m : Addr) (r : Option Ix), s.Ready → Resolves b k s r m →
    let c := m.toNat % 128
    let scaled := fun (w : Nat) (x : BitVec w) (j : Nat) =>
      (x.rotateLeft j).getLsbD (w - 1) ≠ (x.rotateLeft j).getLsbD (w - 2)
    let places := fun (w : Nat) (x : BitVec w) (n : Nat) =>
      if x = 0 ∨ x = BitVec.allOnes w then n = 0
      else n ≤ c ∧ (∀ j, j < n → ¬scaled w x j) ∧ (n = c ∨ scaled w x n)
    let keep := fun (t : State) (n : Nat) =>
      match r with
      | none => t
      | some q => t.setIx q (m - BitVec.ofNat 15 n)
    (∃ n, places 48 s.a n ∧ exec (.sca b k) s = .next (s.completed (keep (s.setA (s.a.rotateLeft n)) n).advance)) ∧
    (∃ (n : Nat) (v w : Word), places 96 (s.a ++ s.q) n ∧ v ++ w = (s.a ++ s.q : BitVec 96).rotateLeft n ∧
      exec (.scq b k) s = .next (s.completed (keep ((s.setA v).setQ w) n).advance))

/-! ### Replace, storage test and search (spec/43_replace_test_search.md) -/

/-- RAD, RSB, RAO and RSO put the sum or difference of the word at M and A, or one, in A and at M: every other byte of
storage and everything else is unchanged. Outside the range of A the value is open and bit 03 is set; out of bounds
storage is not written and bit 42 is set (R220 to R224, spec/60_exceptions.md R393; log 10, log 20). -/
def Obligations.ReplaceOps : Prop :=
  ∀ (s : State) (b : Desig) (m a : Addr), s.Ready → s.mem.wf = true → Effective b m s a → s.installed a = true →
    let x := s.mem.readWord a
    let forms := fun (i : Instr) (e : Int) (minusZero : Prop) =>
      ∃ (v : Word) (t : State),
        (e.natAbs < 2 ^ 47 → t = s ∧ ocVal v = e ∧ (v = BitVec.allOnes 48 ↔ minusZero)) ∧
        (2 ^ 47 ≤ e.natAbs → t = (s.setIntr (s.intr ||| bitWord 3)).setFreeCount (s.freeCount + 1)) ∧
        (s.outOfBounds a = true →
          exec i s = .next (s.completed ((t.setA v).setIntr (t.intr ||| bitWord 42)).advance)) ∧
        (s.outOfBounds a = false →
          ∃ w, exec i s = .next (s.completed ((t.setA v).setMem w).advance) ∧ w.readWord a = v ∧
            ∀ k, outsideWord a k → w.readByte k = s.mem.readByte k)
    forms (.rad b m) (ocVal x + ocVal s.a) (x = BitVec.allOnes 48 ∧ s.a = BitVec.allOnes 48) ∧
    forms (.rsb b m) (ocVal x - ocVal s.a) (x = BitVec.allOnes 48 ∧ s.a = 0) ∧
    forms (.rao b m) (ocVal x + 1) False ∧
    forms (.rso b m) (ocVal x - 1) False

/-- SSK and SSH skip the lower instruction where bit 47 of the word at M is 1; SSH also shifts the word left circular
one place, whatever its sign, unless it is out of bounds, where bit 42 is set instead. Every other byte of storage and
everything else is unchanged (R226, R227, spec/60_exceptions.md R393; log 20). -/
def Obligations.StorageTests : Prop :=
  ∀ (s : State) (b : Desig) (m a : Addr), s.Ready → s.mem.wf = true → Effective b m s a → s.installed a = true →
    let x := s.mem.readWord a
    let follow := fun t : State => if x.getLsbD 47 = true then t.nextStep else t.advance
    exec (.ssk b m) s = .next (s.completed (follow s)) ∧
    (s.outOfBounds a = true → exec (.ssh b m) s = .next (s.completed (follow (s.setIntr (s.intr ||| bitWord 42))))) ∧
    (s.outOfBounds a = false →
      ∃ v, exec (.ssh b m) s = .next (s.completed (follow (s.setMem v))) ∧
        (∀ j, j < 48 → (v.readWord a).getLsbD ((j + 1) % 48) = x.getLsbD j) ∧
        ∀ k, outsideWord a k → v.readByte k = s.mem.readByte k)

/-- The four searches. With no index register the one word at m is examined. With one that holds n, the words at m +
(n - 1) down to m are, the addresses in one's complement: at the first that meets the condition the register holds its
distance from m and the lower instruction is skipped; where none does the register is zero and there is no skip.
Nothing else changes. A register that holds 77777 is refused, the model's choice (R230 to R234; log 17, log 32). -/
def Obligations.Searches : Prop :=
  ∀ (s : State) (b : Desig) (m a : Addr), s.Ready →
    let forms := fun (i : Instr) (hit : Word → Prop) =>
      (Resolves b m s none a → s.installed a = true →
        (hit (s.mem.readWord a) → exec i s = .next (s.completed s.nextStep)) ∧
        (¬hit (s.mem.readWord a) → exec i s = .next (s.completed s.advance))) ∧
      (∀ r, Resolves b m s (some r) a →
        let at' := fun j : Nat => ocadd a (BitVec.ofNat 15 j)
        let n := (s.ix r).toNat
        (s.ix r = 0o77777 → exec i s = .refused .negativeZeroIndex) ∧
        (s.ix r ≠ 0o77777 → ∀ j, j < n → (∀ k, j ≤ k → k < n → s.installed (at' k) = true) →
          hit (s.mem.readWord (at' j)) → (∀ k, j < k → k < n → ¬hit (s.mem.readWord (at' k))) →
            exec i s = .next (s.completed (s.setIx r (BitVec.ofNat 15 j)).nextStep)) ∧
        (s.ix r ≠ 0o77777 → (∀ k, k < n → s.installed (at' k) = true ∧ ¬hit (s.mem.readWord (at' k))) →
          exec i s = .next (s.completed (s.setIx r 0).advance)))
    let equal := fun x y : Word => x = y ∨ (ocVal x = 0 ∧ ocVal y = 0)
    let greater := fun x y : Word => ocVal y < ocVal x ∨ (x = 0 ∧ y = BitVec.allOnes 48)
    forms (.eqs b m) (fun x => equal x s.a) ∧
    forms (.ths b m) (fun x => greater x s.a) ∧
    forms (.meq b m) (fun x => equal (s.q &&& x) s.a) ∧
    forms (.mth b m) (fun x => greater (s.q &&& x) s.a)

/-! ### Jumps and stops (spec/44_jumps_stops.md) -/

/-- AJP, QJP and SLJ jump to the upper instruction at m where their condition on A, on Q or on a Selective Jump switch
holds, both zeros being zero and bit 47 the sign; else the next instruction follows. A jump out of bounds is not taken
and sets bit 42. Nothing else changes. That a switch which is set is read as set also while the console is locked out is
the model's choice (log 28) (R241, R243, R245, R248, R253, spec/60_exceptions.md R393; log 20, log 28). -/
def Obligations.NormalJumps : Prop :=
  ∀ (s : State) (m : Addr), s.Ready →
    let forms := fun (i : Instr) (c : Prop) =>
      (c → s.outOfBounds m = false → exec i s = .next (s.completed (((s.setP m).setHalf .upper).setUHeld false))) ∧
      (c → s.outOfBounds m = true → exec i s = .next (s.completed (s.advance.setIntr (s.intr ||| bitWord 42)))) ∧
      (¬c → exec i s = .next (s.completed s.advance))
    let zero := fun x : Word => x = 0 ∨ x = BitVec.allOnes 48
    forms (.ajp .zero m) (zero s.a) ∧ forms (.ajp .nonzero m) (¬zero s.a) ∧
    forms (.ajp .positive m) (s.a.getLsbD 47 = false) ∧ forms (.ajp .negative m) (s.a.getLsbD 47 = true) ∧
    forms (.qjp .zero m) (zero s.q) ∧ forms (.qjp .nonzero m) (¬zero s.q) ∧
    forms (.qjp .positive m) (s.q.getLsbD 47 = false) ∧ forms (.qjp .negative m) (s.q.getLsbD 47 = true) ∧
    forms (.slj .always m) True ∧ forms (.slj .sw1 m) (s.console.jump1 = true) ∧
    forms (.slj .sw2 m) (s.console.jump2 = true) ∧ forms (.slj .sw3 m) (s.console.jump3 = true)

/-- ARJ, QRJ and RTJ, where their condition holds, store P + 1 in bits 38..24 of the word at m, from either half, and
go to the lower instruction at m: the other bits of the word, every other byte of storage and everything else are
unchanged. Out of bounds nothing is stored, the jump is not taken and bit 42 is set. That a Selective Jump switch which is
set is read as set also while the console is locked out is the model's choice (log 28) (R242, R244, R246, R249, R253,
spec/60_exceptions.md R393; log 20, log 28). -/
def Obligations.ReturnJumps : Prop :=
  ∀ (s : State) (m : Addr), s.Ready → s.mem.wf = true →
    let forms := fun (i : Instr) (c : Prop) =>
      (c → s.outOfBounds m = false → s.installed m = true →
        ∃ v, exec i s = .next (s.completed ((((s.setMem v).setP m).setHalf .lower).setUHeld false)) ∧
          (∀ j, (v.readWord m).getLsbD j =
            if 24 ≤ j ∧ j < 39 then (s.p + 1).getLsbD (j - 24) else (s.mem.readWord m).getLsbD j) ∧
          ∀ k, outsideWord m k → v.readByte k = s.mem.readByte k) ∧
      (c → s.outOfBounds m = true → exec i s = .next (s.completed (s.advance.setIntr (s.intr ||| bitWord 42)))) ∧
      (¬c → exec i s = .next (s.completed s.advance))
    let zero := fun x : Word => x = 0 ∨ x = BitVec.allOnes 48
    forms (.arj .zero m) (zero s.a) ∧ forms (.arj .nonzero m) (¬zero s.a) ∧
    forms (.arj .positive m) (s.a.getLsbD 47 = false) ∧ forms (.arj .negative m) (s.a.getLsbD 47 = true) ∧
    forms (.qrj .zero m) (zero s.q) ∧ forms (.qrj .nonzero m) (¬zero s.q) ∧
    forms (.qrj .positive m) (s.q.getLsbD 47 = false) ∧ forms (.qrj .negative m) (s.q.getLsbD 47 = true) ∧
    forms (.rtj .always m) True ∧ forms (.rtj .sw1 m) (s.console.jump1 = true) ∧
    forms (.rtj .sw2 m) (s.console.jump2 = true) ∧ forms (.rtj .sw3 m) (s.console.jump3 = true)

/-- IJP: a register that is not zero is reduced by one and the jump to the upper instruction at m is made; out of
bounds the register is still reduced, the jump is not taken and bit 42 is set. A zero register, or none, continues
with the next instruction; 77777 is refused, the model's choice (R247, R253; log 17, log 34, log 20). -/
def Obligations.IndexJump : Prop :=
  ∀ (s : State) (b : Desig) (m a : Addr), s.Ready →
    (Resolves b m s none a → exec (.ijp b m) s = .next (s.completed s.advance)) ∧
    (∀ r, Resolves b m s (some r) a →
      let t := s.setIx r (s.ix r - 1)
      (s.ix r = 0 → exec (.ijp b m) s = .next (s.completed s.advance)) ∧
      (s.ix r = 0o77777 → exec (.ijp b m) s = .refused .negativeZeroIndex) ∧
      (s.ix r ≠ 0 → s.ix r ≠ 0o77777 →
        (s.outOfBounds a = false →
          exec (.ijp b m) s = .next (s.completed (((t.setP a).setHalf .upper).setUHeld false))) ∧
        (s.outOfBounds a = true →
          exec (.ijp b m) s = .next (s.completed (t.advance.setIntr (s.intr ||| bitWord 42))))))

/-- SLS and SRJ stop, the pointer at the stop, unconditionally for j = 0 and else where their Stop switch is set in
maintenance mode; without a stop they jump, or return jump, unconditionally. The Go switch makes that jump of a
computer stopped so, without testing the stop again, and has no other effect (R250 to R252; log 28). -/
def Obligations.StopAndGo : Prop :=
  ∀ (s : State) (j : SwCond) (m : Addr),
    let stops := match j with
      | .always => true
      | .sw1 => s.console.maintenance && s.console.stop1
      | .sw2 => s.console.maintenance && s.console.stop2
      | .sw3 => s.console.maintenance && s.console.stop3
    (stops = true →
      exec (.sls j m) s = .next ((s.setRunning false).setSlsStopped true) ∧
      exec (.srj j m) s = .next ((s.setRunning false).setSlsStopped true)) ∧
    (stops = false → exec (.sls j m) s = exec (.slj .always m) s ∧ exec (.srj j m) s = exec (.rtj .always m) s) ∧
    (∀ rest, s.env = .go :: rest → (s.console.systemActive = true ∨ s.console.maintenance = true) →
      let t := ((s.setEnv rest).setRunning true).setSlsStopped false
      (s.slsStopped = true → decodeAt s.u s.half = .instr (.sls j m) → step s = exec (.slj .always m) t) ∧
      (s.slsStopped = true → decodeAt s.u s.half = .instr (.srj j m) → step s = exec (.rtj .always m) t) ∧
      (s.slsStopped = false → step s = .next (s.setEnv rest)))

/-! ### Characters, internal functions, AUG and bounds (spec/45_character_internal.md) -/

/-- LDC puts in A the six bits of the word at M from bit (Bv) up, the rest of A zero; STC stores bits 5..0 of A there:
the other bits of the word, every other byte of storage and everything else are unchanged; out of bounds nothing is
stored and bit 42 is set. v = 0 or 7 and any other content of Bv are refused, the model's choice (R260 to R262,
spec/60_exceptions.md R393; log 16, log 20). -/
def Obligations.Characters : Prop :=
  ∀ (s : State) (b : Desig) (m a : Addr), s.Ready → s.mem.wf = true → Effective b m s a → s.installed a = true →
    let x := s.mem.readWord a
    (∀ (r : Ix) (k : Nat), k < 8 → s.ix r = BitVec.ofNat 15 (6 * k) →
      (∃ v : Word, exec (.ldc b (.ix r) m) s = .next (s.completed (s.setA v).nextStep) ∧
        ∀ j, v.getLsbD j = (decide (j < 6) && x.getLsbD (6 * k + j))) ∧
      (s.outOfBounds a = true →
        exec (.stc b (.ix r) m) s = .next (s.completed (s.setIntr (s.intr ||| bitWord 42)).nextStep)) ∧
      (s.outOfBounds a = false →
        ∃ v, exec (.stc b (.ix r) m) s = .next (s.completed (s.setMem v).nextStep) ∧
          (∀ j, (v.readWord a).getLsbD j =
            if 6 * k ≤ j ∧ j < 6 * k + 6 then s.a.getLsbD (j - 6 * k) else x.getLsbD j) ∧
          ∀ n, outsideWord a n → v.readByte n = s.mem.readByte n)) ∧
    (∀ r, (∀ k, k < 8 → s.ix r ≠ BitVec.ofNat 15 (6 * k)) →
      exec (.ldc b (.ix r) m) s = .refused .characterPosition ∧
      exec (.stc b (.ix r) m) s = .refused .characterPosition) ∧
    exec (.ldc b .zero m) s = .refused .characterDesignator ∧
    exec (.ldc b .seven m) s = .refused .characterDesignator ∧
    exec (.stc b .zero m) s = .refused .characterDesignator ∧
    exec (.stc b .seven m) s = .refused .characterDesignator

/-- What each function code of INF does: the bit of the Interrupt Mask register it sets or clears, the flip-flop it
clears or sets, and nothing else. A code that is not listed is refused, the model's choice (R266 to R276; log 16, log
21, log 23). -/
def Obligations.InternalFunctions : Prop :=
  ∀ s : State, s.Ready →
    let does := fun (y : Nat) (t : State) => exec (.inf (BitVec.ofNat 15 y)) s = .next (s.completed t.advance)
    let select := fun n => s.setMask (s.mask ||| bitWord n)
    let deselect := fun n => s.setMask (s.mask &&& ~~~(bitWord n))
    let clear := fun (t : State) n => t.setIntr (t.intr &&& ~~~(bitWord n))
    (∀ x, x < 4 →
      does (8 * x) (clear (select (10 + x)) (10 + x)) ∧ does (8 * x + 1) (clear (deselect (10 + x)) (10 + x)) ∧
      does (0o200 + 8 * x) (select (30 + x)) ∧ does (0o201 + 8 * x) (deselect (30 + x)) ∧
      does (0o300 + 8 * x) (select (20 + x)) ∧ does (0o301 + 8 * x) (deselect (20 + x))) ∧
    does 0o110 (s.setCtl { s.ctl with exit1 := true }) ∧ does 0o111 (s.setCtl { s.ctl with exit1 := false }) ∧
    does 0o120 (s.setCtl { s.ctl with exit2 := true }) ∧ does 0o121 (s.setCtl { s.ctl with exit2 := false }) ∧
    does 0o400 (s.setIntr (s.intr &&& ~~~(0o76 : Word))) ∧
    (∀ n, 1 ≤ n → n ≤ 5 →
      does (0o400 + 8 * n) (select n) ∧ does (0o401 + 8 * n) (deselect n) ∧ does (0o402 + 8 * n) (clear s n)) ∧
    does 0o500 ((clear (select 44) 44).setCtl { s.ctl with timeArmed := true }) ∧
    does 0o501 ((clear (deselect 44) 44).setCtl { s.ctl with timeArmed := false }) ∧
    does 0o510 (clear (select 43) 43) ∧ does 0o511 (clear (deselect 43) 43) ∧
    does 0o520 (select 45) ∧ does 0o521 (deselect 45) ∧ does 0o522 (clear s 45) ∧
    does 0o530 (select 46) ∧ does 0o531 (deselect 46) ∧ does 0o532 (clear s 46) ∧
    does 0o540 (clear (select 42) 42) ∧ does 0o541 (clear (deselect 42) 42) ∧
    does 0o600 (s.setCtl { s.ctl with active := true }) ∧ does 0o601 (s.setCtl { s.ctl with active := false }) ∧
    does 0o602 (((s.setIntr 0).setMask 0).setCtl { s.ctl with active := false, timeArmed := false }) ∧
    (∀ y : Addr, y.toNat ∉ infCodes → exec (.inf y) s = .refused .functionCode)

/-- SEN in the upper half skips the lower instruction where the condition of its code holds, and changes nothing else;
a channel that is not installed is never active, and a code that is not listed is refused, the model's choices. In the
lower half it is a pass (R280, R281; log 16, log 36). -/
def Obligations.InternalSense : Prop :=
  ∀ s : State, s.Ready →
    (s.half = .upper →
      let skips := fun (y : Nat) (c : Prop) =>
        (c → exec (.sen (BitVec.ofNat 15 y)) s = .next (s.completed s.nextStep)) ∧
        (¬c → exec (.sen (BitVec.ofNat 15 y)) s = .next (s.completed s.advance))
      (∀ x : ChanId,
        let active := (s.chan x).active = true ∧ s.chanInstalled x = true
        skips (8 * x.index) (¬active) ∧ skips (8 * x.index + 1) active) ∧
      skips 0o110 (s.ctl.exit1 = true) ∧ skips 0o111 (s.ctl.exit1 = false) ∧
      skips 0o120 (s.ctl.exit2 = true) ∧ skips 0o121 (s.ctl.exit2 = false) ∧
      skips 0o210 (s.ctl.mode1 = true) ∧ skips 0o211 (s.ctl.mode1 = false) ∧
      skips 0o220 (s.ctl.mode2 = true) ∧ skips 0o221 (s.ctl.mode2 = false) ∧
      (∀ y : Addr, y.toNat ∉ senCodes → exec (.sen y) s = .refused .senseCode)) ∧
    (s.half = .lower → ∀ y, exec (.sen y) s = .next (s.completed s.advance))

/-- AUG in the upper half replaces the address of the lower instruction in U as v says, stores t, and goes on with the
lower instruction at once, without sampling the interrupts. A t that is not checked for the lower instruction, v other
than 0 over IAQ or ATI, and v = 7 fetching a word whose bits 17..15 are not zero are refused, the model's choices. In
the lower half it is a pass (R283 to R286; log 18, log 36). -/
def Obligations.Augment : Prop :=
  ∀ (s : State) (t2 t1 t0 : Bool), s.Ready →
    let f := (field s.u 18 6).toNat
    let floating := f ∈ [0o30, 0o31, 0o32, 0o33]
    let allowed := (t2 = true → f ∈ [0o12, 0o16, 0o20, 0o21, 0o14, 0o15, 0o24, 0o25] ∨ floating) ∧
      (t1 = true ∨ t0 = true → floating)
    let goes := fun (v : Desig) (addr : Addr) =>
      ∃ u : Word, exec (.aug v t2 t1 t0) s =
          .next ((((s.setU u).setAug { t2 := t2, t1 := t1, t0 := t0 }).setHalf .lower).setUHeld true) ∧
        field u 0 15 = addr ∧ field u 15 33 = field s.u 15 33
    let x := s.mem.readWord (field s.u 0 15)
    (s.half = .upper →
      (¬allowed → ∀ v, exec (.aug v t2 t1 t0) s = .refused .augmentDesignator) ∧
      (allowed →
        goes .zero (field s.u 0 15) ∧
        (∀ r, f ≠ 0 → goes (.ix r) (ocadd (field s.u 0 15) (s.ix r))) ∧
        (f ≠ 0 → s.installed (field s.u 0 15) = true → field x 15 3 = 0 → goes .seven (field x 0 15)) ∧
        (f ≠ 0 → s.installed (field s.u 0 15) = true → field x 15 3 ≠ 0 →
          exec (.aug .seven t2 t1 t0) s = .refused .augmentIndirect) ∧
        (f = 0 → ∀ v, v ≠ .zero → exec (.aug v t2 t1 t0) s = .refused .augmentAddress))) ∧
    (s.half = .lower → ∀ v, exec (.aug v t2 t1 t0) s = .next (s.completed s.advance))

/-- EUB and ELB enter their 8 bits in the Upper or Lower Bounds register; while the interrupt system is active and
Mask bit 42 is set they are illegal: the register is unchanged and the Category III interrupt is taken, P + 1 into
bits 38..24 of location 00020, execution at its lower half (R288, R289, spec/60_exceptions.md R382; log 20). -/
def Obligations.BoundsInstructions : Prop :=
  ∀ (s : State) (y : BitVec 8), s.Ready →
    let illegal := ((((s.setMem (s.mem.writeWord 0o20 (setField (s.mem.readWord 0o20) 24 (s.p + 1)))).setP
      0o20).setHalf .lower).setUHeld false)
    (¬(s.ctl.active = true ∧ s.mask.getLsbD 42 = true) →
      exec (.eub y) s = .next (s.completed (s.setBu y).advance) ∧
      exec (.elb y) s = .next (s.completed (s.setBl y).advance)) ∧
    (s.ctl.active = true → s.mask.getLsbD 42 = true →
      exec (.eub y) s = .next (s.completed illegal) ∧ exec (.elb y) s = .next (s.completed illegal))

/-! ### Input/output (spec/46_input_output.md) -/

/-- CONN and EXTF. On a busy channel, and EXTF with nothing connected, only the reject jump happens. CONN on an answer
holds the equipment and unit and goes on; on a reject or none it clears the connection and jumps. EXTF goes on with
the answer of the equipment, or jumps. A parity error on the code is an internal reject, and for EXTF sets bit 20 + x;
the codes after it act as if no error stood, the model's choice (log 25).
A jump out of bounds sets bit 42 instead. An absent channel is refused (R300, R302 to R304, spec/60_exceptions.md
R391; log 16, log 25, log 29, log 20). -/
def Obligations.ConnectFunction : Prop :=
  ∀ (s : State) (x : ChanId) (n : Addr) (c : BitVec 12), s.Ready →
    let k := s.chan x
    let digit := BitVec.ofNat 3 x.index
    let rejects := fun t : State =>
      if s.outOfBounds n = true then t.nextStep.setIntr (t.intr ||| bitWord 42)
      else ((t.setP n).setHalf .upper).setUHeld false
    let conn := fun t => exec (.conn n digit c) s = .next (s.completed t)
    let extf := fun t => exec (.extf n digit c) s = .next (s.completed t)
    let answer := connectAll x c s.equip
    let noted := fun p : Transmitted =>
      (s.setCodeParity false).setEquip (onChannel x (fun e => e.device.parityError p) s.equip)
    (s.chanInstalled x = true →
      (k.active = true → conn (rejects s) ∧ extf (rejects s)) ∧
      (k.active = false → s.codeParity = false →
        (answer.1 = .reply →
          conn ((s.setEquip answer.2).setChan x { k with conn := some (field c 9 3, field c 0 9) }).nextStep) ∧
        (answer.1 ≠ .reply → conn (rejects ((s.setEquip answer.2).setChan x { k with conn := none })))) ∧
      (k.active = false → s.codeParity = true → conn (rejects (noted .connect))) ∧
      (k.active = false → k.conn = none → extf (rejects s)) ∧
      (∀ e u, k.active = false → k.conn = some (e, u) → s.codeParity = false →
        let given := functionAll x e c (Config.freeBit s.freeCount) s.equip
        let t := (s.setFreeCount (s.freeCount + 1)).setEquip given.2
        extf (if given.1 = .reply then t.nextStep else rejects t)) ∧
      (∀ e u, k.active = false → k.conn = some (e, u) → s.codeParity = true →
        extf (rejects ((noted .function).setIntr (s.intr ||| bitWord (20 + x.index)))))) ∧
    (s.chanInstalled x = false →
      exec (.conn n digit c) s = .refused .channelNotInstalled ∧
      exec (.extf n digit c) s = .refused .channelNotInstalled) ∧
    (∀ y : BitVec 3, 4 ≤ y.toNat →
      exec (.conn n y c) s = .refused .channelNotInstalled ∧ exec (.extf n y c) s = .refused .channelNotInstalled)

/-- BEGR and BEGW: on a busy channel only the reject jump; else bits 38..24 and 14..0 of the word at m go to the
channel's count and address and the channel is active in its direction, whatever is connected. Nothing else changes
but the equipment's own note of the start. So it is also after a parity error and before the clear that R391 asks for,
the model's choice (log 25). An absent channel is refused (R300, R302, R305, R306; log 16, log 25, log 29, log 20). -/
def Obligations.ReadWrite : Prop :=
  ∀ (s : State) (x : ChanId) (n m : Addr), s.Ready →
    let k := s.chan x
    let digit := BitVec.ofNat 3 x.index
    let w := s.mem.readWord m
    let rejects :=
      if s.outOfBounds n = true then s.nextStep.setIntr (s.intr ||| bitWord 42)
      else ((s.setP n).setHalf .upper).setUHeld false
    let starts := fun d : Dir =>
      ((s.setChan x { k with wc := field w 24 15, ca := field w 0 15, active := true, dir := d }).setEquip
        (onChannel x (fun e => e.device.start d) s.equip)).nextStep
    (s.chanInstalled x = true →
      (k.active = true →
        exec (.begr n digit m) s = .next (s.completed rejects) ∧
        exec (.begw n digit m) s = .next (s.completed rejects)) ∧
      (k.active = false → s.installed m = true →
        exec (.begr n digit m) s = .next (s.completed (starts .read)) ∧
        exec (.begw n digit m) s = .next (s.completed (starts .write)))) ∧
    (s.chanInstalled x = false →
      exec (.begr n digit m) s = .refused .channelNotInstalled ∧
      exec (.begw n digit m) s = .refused .channelNotInstalled) ∧
    (∀ y : BitVec 3, 4 ≤ y.toNat →
      exec (.begr n y m) s = .refused .channelNotInstalled ∧ exec (.begw n y m) s = .refused .channelNotInstalled)

/-- COPY puts the channel's count and address in A and its status and interrupt lines in Q; CCWD interchanges the count
and address with the fields of A; CLCH clears the channel's connection and control word, ends an operation in progress
with bit 10 + x, which its equipments see, clears bit 20 + x, and clears every equipment on the channel. Every other
bit of A and Q is zero, and nothing else changes. An absent channel is refused. An Auto Load is taken not to be reading
on the channel: the computer is stopped while one is. That in CLCH the equipments see the operation's end before their
clear is the model's choice (log 31) (R300, R308, R311, R312; log 16, log 22, log 24, log 26, log 29, log 31). -/
def Obligations.ChannelRegisters : Prop :=
  ∀ (s : State) (x : ChanId), s.Ready →
    let k := s.chan x
    let digit := BitVec.ofNat 3 x.index
    let control : Word := k.wc.setWidth 48 <<< 24 ||| k.ca.setWidth 48
    let lines : Word := (s.intLines x).setWidth 48 <<< 24 ||| (s.status x).setWidth 48
    let ended :=
      if k.active = true then onChannel x (fun e => e.device.endTransfer k.dir) s.equip else s.equip
    (s.chanInstalled x = true →
      exec (.copy digit) s = .next (s.completed ((s.setA control).setQ lines).nextStep) ∧
      exec (.ccwd digit) s = .next (s.completed
        ((s.setChan x { k with wc := field s.a 24 15, ca := field s.a 0 15 }).setA control).nextStep) ∧
      (s.autoLoading ≠ some x →
        ∃ w : Word,
          exec (.clch digit) s = .next (s.completed
            (((s.setChan x { k with active := false, conn := none, wc := 0, ca := 0 }).setIntr w).setEquip
              (onChannel x (fun e => e.device.clear) ended)).nextStep) ∧
          (∀ n, n < 48 → w.getLsbD n =
            (n != 20 + x.index && (s.intr.getLsbD n || (n == 10 + x.index && k.active)))))) ∧
    (s.chanInstalled x = false →
      exec (.copy digit) s = .refused .channelNotInstalled ∧ exec (.ccwd digit) s = .refused .channelNotInstalled ∧
      exec (.clch digit) s = .refused .channelNotInstalled) ∧
    (∀ y : BitVec 3, 4 ≤ y.toNat →
      exec (.copy y) s = .refused .channelNotInstalled ∧ exec (.ccwd y) s = .refused .channelNotInstalled ∧
      exec (.clch y) s = .refused .channelNotInstalled)

/-- CIS puts the Interrupt register in A and CPR its logical product with the Mask register, and nothing else changes.
The Interrupt register has its flip-flops at bits 01 to 05, 10 to 13, 20 to 23 and 42 to 46; bit 30 + x is 1 exactly
where some interrupt line of channel x is up; the other bits are 0 (R309, R310, R316, spec/60_exceptions.md R372; log
21, log 22). -/
def Obligations.InterruptRegisters : Prop :=
  ∀ s : State,
    (s.Ready →
      exec .cis s = .next (s.completed (s.setA s.interrupt).advance) ∧
      exec .cpr s = .next (s.completed (s.setA (s.interrupt &&& s.mask)).advance)) ∧
    (∀ n, n ∈ [1, 2, 3, 4, 5, 10, 11, 12, 13, 20, 21, 22, 23, 42, 43, 44, 45, 46] →
      s.interrupt.getLsbD n = s.intr.getLsbD n) ∧
    (∀ x : ChanId, s.interrupt.getLsbD (30 + x.index) = decide (s.intLines x ≠ 0)) ∧
    (∀ n, n ∉ [1, 2, 3, 4, 5, 10, 11, 12, 13, 20, 21, 22, 23, 30, 31, 32, 33, 42, 43, 44, 45, 46] →
      s.interrupt.getLsbD n = false)

/-- The channel as an agent. While an installed channel x is active, an event with a zero count ends the operation: bit
10 + x is set, the equipments see the end, and an Auto Load on x starts the computer at AUTOLOAD_ENTRY. Else a word that
arrives on a Read, from outside or made by the control of a connected equipment, is stored at the address, its first
byte highest, whatever the bounds; a Write sends the word at the address, unless a connected equipment takes none now;
and either way the count goes down and the address up by one, modulo 2^15. An End of Record ends a Read; that of the
console's switch, inside an instruction or between two, ends the Read of a connected typewriter unless the console is
locked out. An event of a mechanism also moves the mechanisms of the channel, after the end where the count is zero. A key of a connected
typewriter stores its code in a Read, and a coupler whose other division drops its Write ends one. Nothing else changes; a
channel that is inactive or not installed moves nothing (R307, R314, R315, R317, R318, spec/48_external_equipment.md
R346, R365, R369, spec/70_reset_and_hazards.md R424; log 20, log 26, log 27, log 29, log 30). -/
def Obligations.ChannelAgent : Prop :=
  ∀ (s : State) (x : ChanId) (rest : List Event) (b1 b2 b3 b4 : BitVec 12) (f : BitVec 8) (g : BitVec 7)
    (n : BitVec 3) (code : BitVec 6) (d : Device),
    s.mem.wf = true →
    let t := s.setEnv rest
    let k := s.chan x
    let counted : Channel := { k with wc := k.wc - 1, ca := k.ca + 1 }
    let idle := s.chanInstalled x = false ∨ k.active = false
    let reads := s.chanInstalled x = true ∧ k.active = true ∧ k.dir = .read
    let writes := s.chanInstalled x = true ∧ k.active = true ∧ k.dir = .write
    let halted := fun es : List Attached =>
      let h := ((t.setChan x { k with active := false }).setIntr (s.intr ||| bitWord (10 + x.index))).setEquip
        (onChannel x (fun e => e.device.endTransfer k.dir) es)
      if s.autoLoading = some x then
        ((((h.setAutoLoading none).setP s.cfg.autoLoadEntry.1).setHalf s.cfg.autoLoadEntry.2).setUHeld false).setRunning
          true
      else h
    let types :=
      ∃ e ∈ s.equip, e.channel = x ∧ ∃ d : Typewriter, e.device = .typewriter d ∧ d.connected = true
    let stored := fun (es : List Attached) (w : Word) =>
      s.installed k.ca = true →
        ∃ v, step s = .next (((t.setEquip es).setMem v).setChan x counted) ∧ v.readWord k.ca = w ∧
          ∀ n, outsideWord k.ca n → v.readByte n = s.mem.readByte n
    let mechanism := fun (e : ChannelEvent) (does : Device → Supply × Device) =>
      s.env = .channel e :: rest →
        let es := onChannel x (fun e => (does e.device).2) s.equip
        (s.chanInstalled x = false → step s = .next t) ∧
        (s.chanInstalled x = true → ¬reads → step s = .next (t.setEquip es)) ∧
        (reads → k.wc = 0 →
          let h := halted s.equip
          step s = .next (h.setEquip (onChannel x (fun e => (does e.device).2) h.equip))) ∧
        (reads → k.wc ≠ 0 → supplied x does s.equip = .none → step s = .next (t.setEquip es)) ∧
        (reads → k.wc ≠ 0 → supplied x does s.equip = .endOfRecord → step s = .next (halted es)) ∧
        (reads → k.wc ≠ 0 → ∀ w, supplied x does s.equip = .word w → stored es w)
    (s.env = .channel (.deliver x b1 b2 b3 b4) :: rest →
      (idle ∨ writes → step s = .next t) ∧
      (reads → k.wc = 0 → step s = .next (halted s.equip)) ∧
      (reads → k.wc ≠ 0 → s.inputFree x Device.freeInput = false → step s = .next t) ∧
      (reads → k.wc ≠ 0 → s.inputFree x Device.freeInput = true → stored s.equip (b1 ++ b2 ++ b3 ++ b4))) ∧
    (s.env = .channel (.endOfRecord x) :: rest →
      (idle ∨ writes → step s = .next t) ∧
      (reads → s.inputFree x Device.ends = false → step s = .next t) ∧
      (reads → s.inputFree x Device.ends = true → step s = .next (halted s.equip))) ∧
    (s.env = .channel (.endOfRecordSwitch x) :: rest ∨
        (s.env = .endOfRecordSwitch :: rest ∧ ∀ y, y ≠ x → s.reading y = false) →
      let locked := s.console.systemActive = false ∧ s.console.maintenance = false
      (¬(reads ∧ types) ∨ locked → step s = .next t) ∧
      (reads → types → ¬locked → step s = .next (halted s.equip))) ∧
    (s.env = .channel (.take x) :: rest →
      (idle → step s = .next t) ∧
      (reads ∨ writes → k.wc = 0 → step s = .next (halted s.equip)) ∧
      (reads → k.wc ≠ 0 → step s = .next t) ∧
      (writes → k.wc ≠ 0 → s.writeBlocked x = true → step s = .next t) ∧
      (writes → k.wc ≠ 0 → s.writeBlocked x = false → s.installed k.ca = true →
        let w := s.mem.readWord k.ca
        step s = .next ((t.setEquip (onChannel x (fun e => e.device.receive w) s.equip)).setChan x
          { counted with sent := k.sent ++ [field w 36 12, field w 24 12, field w 12 12, field w 0 12] }))) ∧
    (s.env = .channel (.key x n code) :: rest →
      let es :=
        onChannel x (fun e => if e.number = n then e.device.key code (s.writing x) else e.device) s.equip
      let typed := s.chanInstalled x = true ∧ s.typewriterOn x n = true
      (¬typed → step s = .next t) ∧
      (typed → ¬reads → step s = .next (t.setEquip es)) ∧
      (typed → reads → k.wc = 0 → step s = .next (halted es)) ∧
      (typed → reads → k.wc ≠ 0 → stored es (code.setWidth 48))) ∧
    (s.env = .channel (.mechanism x n d) :: rest →
      let es := replaceEquipment x n none d s.equip
      let cabled := s.chanInstalled x = true ∧ ∃ e ∈ s.equip, e.isAt x n = true
      let drops :=
        ∃ e ∈ s.equip, e.isAt x n = true ∧ ∃ old now : Coupler, e.device = .coupler old ∧ d = .coupler now ∧
          old.connected = true ∧ old.otherWrite = true ∧ now.otherWrite = false
      (¬cabled → step s = .next t) ∧
      (cabled → ¬(reads ∧ drops) → step s = .next (t.setEquip es)) ∧
      (reads → drops → step s = .next (halted es))) ∧
    mechanism (.frame x f) (fun d => d.frame f) ∧
    mechanism (.check x g) (fun d => d.check g) ∧
    mechanism (.unload x) (fun d => d.unload) ∧
    counted.wc + counted.ca = k.wc + k.ca
end

