-- ==== Sys2Proof/Laws/Memory.lean ====
section
/-! SUPPORT. What reads give after writes, and that every write keeps the canonical form. -/

namespace Sys2Proof.Machine

theorem Memory.readByte_consByte (m : Memory) (k j : Nat) (v : BitVec 8)
    (h : j = k → v = unlistedByte → m.readByte k = unlistedByte) :
    (m.consByte k v).readByte j = if j = k then v else m.readByte j := by
  unfold Memory.consByte
  split
  · split
    · subst_vars; exact h rfl rfl
    · rfl
  · simp only [Memory.readByte, eq_comm]

/-- A byte below every key of a canonical list is not listed. -/
theorem Memory.readByte_below (m : Memory) (j k : Nat) (hm : m.wfFrom j = true) (h : k < j) :
    m.readByte k = unlistedByte := by
  induction m generalizing j with
  | nil => rfl
  | cons c rest ih =>
    obtain ⟨i, w⟩ := c
    simp only [Memory.wfFrom, Bool.and_eq_true, decide_eq_true_eq] at hm
    simp only [Memory.readByte]
    rw [if_neg (by omega)]
    exact ih (i + 1) hm.2 (by omega)

theorem Memory.readByte_writeByte (m : Memory) (lo k j : Nat) (v : BitVec 8) (hm : m.wfFrom lo = true) :
    (m.writeByte k v).readByte j = if j = k then v else m.readByte j := by
  induction m generalizing lo with
  | nil => exact Memory.readByte_consByte [] k j v (fun _ _ => rfl)
  | cons c rest ih =>
    obtain ⟨i, w⟩ := c
    have hm' := hm
    simp only [Memory.wfFrom, Bool.and_eq_true, decide_eq_true_eq] at hm'
    simp only [Memory.writeByte]
    split
    · rename_i hlt
      apply Memory.readByte_consByte
      intro _ _
      apply Memory.readByte_below _ i
      · simp only [Memory.wfFrom, Bool.and_eq_true, decide_eq_true_eq]
        exact ⟨⟨⟨Nat.le_refl _, hm'.1.1.2⟩, hm'.1.2⟩, hm'.2⟩
      · exact hlt
    · split
      · rename_i heq
        rw [Memory.readByte_consByte]
        · simp only [Memory.readByte]
          split
          · rfl
          · rw [if_neg (by omega)]
        · intro _ _
          exact Memory.readByte_below rest (i + 1) k hm'.2 (by omega)
      · simp only [Memory.readByte]
        rw [ih (i + 1) hm'.2]
        split <;> split <;> first | rfl | omega

theorem Memory.wfFrom_mono (m : Memory) (i j : Nat) (h : j ≤ i) (hm : m.wfFrom i = true) : m.wfFrom j = true := by
  cases m with
  | nil => rfl
  | cons c rest =>
    simp only [Memory.wfFrom, Bool.and_eq_true, decide_eq_true_eq] at hm ⊢
    exact ⟨⟨⟨by omega, hm.1.1.2⟩, hm.1.2⟩, hm.2⟩

theorem Memory.wfFrom_consByte (m : Memory) (lo k : Nat) (v : BitVec 8) (hk : k < Memory.bytes) (hlo : lo ≤ k)
    (hm : m.wfFrom (k + 1) = true) : (m.consByte k v).wfFrom lo = true := by
  unfold Memory.consByte
  split
  · exact m.wfFrom_mono (k + 1) lo (by omega) hm
  · simp only [Memory.wfFrom, Bool.and_eq_true, decide_eq_true_eq]
    exact ⟨⟨⟨hlo, hk⟩, by assumption⟩, hm⟩

theorem Memory.wfFrom_writeByte (m : Memory) (lo k : Nat) (v : BitVec 8) (hk : k < Memory.bytes) (hlo : lo ≤ k)
    (hm : m.wfFrom lo = true) : (m.writeByte k v).wfFrom lo = true := by
  induction m generalizing lo with
  | nil => exact Memory.wfFrom_consByte [] lo k v hk hlo rfl
  | cons c rest ih =>
    obtain ⟨i, w⟩ := c
    have hm' := hm
    simp only [Memory.wfFrom, Bool.and_eq_true, decide_eq_true_eq] at hm'
    simp only [Memory.writeByte]
    split
    · apply Memory.wfFrom_consByte _ _ _ _ hk hlo
      simp only [Memory.wfFrom, Bool.and_eq_true, decide_eq_true_eq]
      exact ⟨⟨⟨by omega, hm'.1.1.2⟩, hm'.1.2⟩, hm'.2⟩
    · split
      · rename_i heq
        apply Memory.wfFrom_consByte _ _ _ _ hk hlo
        rw [heq]; exact hm'.2
      · simp only [Memory.wfFrom, Bool.and_eq_true, decide_eq_true_eq]
        exact ⟨hm'.1, ih (i + 1) (by omega) hm'.2⟩

/-- Writing a byte of storage keeps the canonical form. -/
theorem Memory.wf_writeByte (m : Memory) (k : Nat) (v : BitVec 8) (hk : k < Memory.bytes) (hm : m.wf = true) :
    (m.writeByte k v).wf = true :=
  m.wfFrom_writeByte 0 k v hk (Nat.zero_le _) hm

theorem byteKey_lt (a : Addr) (i : Nat) (h : i < 6) : byteKey a i < Memory.bytes := by
  have := a.isLt
  simp only [byteKey, Memory.bytes] at *
  omega

/-- Writing a word keeps the canonical form. -/
theorem Memory.wf_writeWord (m : Memory) (a : Addr) (w : Word) (hm : m.wf = true) : (m.writeWord a w).wf = true := by
  unfold Memory.writeWord
  repeat' apply Memory.wf_writeByte
  all_goals first | exact hm | exact byteKey_lt a _ (by omega)

/-- Every byte after a word is written. -/
theorem Memory.readByte_writeWord (m : Memory) (a : Addr) (w : Word) (j : Nat) (hm : m.wf = true) :
    (m.writeWord a w).readByte j =
      if byteKey a 0 ≤ j ∧ j ≤ byteKey a 5 then byteOf w (j - byteKey a 0) else m.readByte j := by
  unfold Memory.writeWord
  have k := fun i (h : i < 6) => byteKey_lt a i h
  have h0 := m.wf_writeByte (byteKey a 0) (byteOf w 0) (k 0 (by omega)) hm
  have h1 := Memory.wf_writeByte _ (byteKey a 1) (byteOf w 1) (k 1 (by omega)) h0
  have h2 := Memory.wf_writeByte _ (byteKey a 2) (byteOf w 2) (k 2 (by omega)) h1
  have h3 := Memory.wf_writeByte _ (byteKey a 3) (byteOf w 3) (k 3 (by omega)) h2
  have h4 := Memory.wf_writeByte _ (byteKey a 4) (byteOf w 4) (k 4 (by omega)) h3
  rw [Memory.readByte_writeByte _ 0 _ _ _ h4, Memory.readByte_writeByte _ 0 _ _ _ h3,
    Memory.readByte_writeByte _ 0 _ _ _ h2, Memory.readByte_writeByte _ 0 _ _ _ h1,
    Memory.readByte_writeByte _ 0 _ _ _ h0, Memory.readByte_writeByte _ 0 _ _ _ hm]
  by_cases hin : byteKey a 0 ≤ j ∧ j ≤ byteKey a 5
  · rw [if_pos hin]
    have : j = byteKey a 0 ∨ j = byteKey a 1 ∨ j = byteKey a 2 ∨ j = byteKey a 3 ∨
      j = byteKey a 4 ∨ j = byteKey a 5 := by simp only [byteKey] at hin ⊢; omega
    rcases this with h | h | h | h | h | h <;> subst h <;> simp [byteKey]
  · rw [if_neg hin]
    have hne : ∀ i, i < 6 → j ≠ byteKey a i := by
      intro i hi hj
      simp only [byteKey] at hin hj
      omega
    simp only [hne 0 (by omega), hne 1 (by omega), hne 2 (by omega), hne 3 (by omega), hne 4 (by omega),
      hne 5 (by omega), if_false]

/-- The bytes of a word make the word. -/
theorem bytes_append (w : Word) :
    (byteOf w 0 ++ byteOf w 1 ++ byteOf w 2 ++ byteOf w 3 ++ byteOf w 4 ++ byteOf w 5 : BitVec 48) = w := by
  apply BitVec.eq_of_getLsbD_eq
  intro i hi
  simp only [byteOf, BitVec.getLsbD_append, BitVec.getLsbD_extractLsb']
  repeat' split
  all_goals
    first
    | (rw [decide_eq_true (by omega), Bool.true_and]; congr 1; omega)

/-- Reading the word just written. -/
theorem Memory.readWord_writeWord (m : Memory) (a : Addr) (w : Word) (hm : m.wf = true) :
    (m.writeWord a w).readWord a = w := by
  unfold Memory.readWord
  simp only [Memory.readByte_writeWord m a w _ hm, byteKey]
  simp
  exact bytes_append w

/-- Reading another word. -/
theorem Memory.readWord_writeWord_ne (m : Memory) (a c : Addr) (w : Word) (hm : m.wf = true) (h : c ≠ a) :
    (m.writeWord a w).readWord c = m.readWord c := by
  have hne : c.toNat ≠ a.toNat := fun hc => h (BitVec.eq_of_toNat_eq hc)
  have out : ∀ i, i < 6 → (m.writeWord a w).readByte (byteKey c i) = m.readByte (byteKey c i) := by
    intro i hi
    rw [Memory.readByte_writeWord m a w _ hm, if_neg]
    simp only [byteKey]
    omega
  unfold Memory.readWord
  rw [out 0 (by omega), out 1 (by omega), out 2 (by omega), out 3 (by omega), out 4 (by omega), out 5 (by omega)]

/-- Memory with nothing listed is canonical. -/
theorem Memory.wf_nil : Memory.wf [] = true := rfl

end Sys2Proof.Machine
end

