-- ==== Sys2Proof/Laws/State.lean ====
section
/-! SUPPORT. One lemma for each field and each update of a field of the state. -/

namespace Sys2Proof.Machine

section
variable (s : State)

@[simp] theorem State.setA_a (v : Word) : (s.setA v).a = v := rfl
@[simp] theorem State.setA_q (v : Word) : (s.setA v).q = s.q := rfl
@[simp] theorem State.setA_b (v : Word) : (s.setA v).b = s.b := rfl
@[simp] theorem State.setA_p (v : Word) : (s.setA v).p = s.p := rfl
@[simp] theorem State.setA_half (v : Word) : (s.setA v).half = s.half := rfl
@[simp] theorem State.setA_u (v : Word) : (s.setA v).u = s.u := rfl
@[simp] theorem State.setA_uHeld (v : Word) : (s.setA v).uHeld = s.uHeld := rfl
@[simp] theorem State.setA_aug (v : Word) : (s.setA v).aug = s.aug := rfl
@[simp] theorem State.setA_intr (v : Word) : (s.setA v).intr = s.intr := rfl
@[simp] theorem State.setA_mask (v : Word) : (s.setA v).mask = s.mask := rfl
@[simp] theorem State.setA_ctl (v : Word) : (s.setA v).ctl = s.ctl := rfl
@[simp] theorem State.setA_bu (v : Word) : (s.setA v).bu = s.bu := rfl
@[simp] theorem State.setA_bl (v : Word) : (s.setA v).bl = s.bl := rfl
@[simp] theorem State.setA_running (v : Word) : (s.setA v).running = s.running := rfl
@[simp] theorem State.setA_slsStopped (v : Word) : (s.setA v).slsStopped = s.slsStopped := rfl
@[simp] theorem State.setA_chans (v : Word) : (s.setA v).chans = s.chans := rfl
@[simp] theorem State.setA_mem (v : Word) : (s.setA v).mem = s.mem := rfl
@[simp] theorem State.setA_console (v : Word) : (s.setA v).console = s.console := rfl
@[simp] theorem State.setA_equip (v : Word) : (s.setA v).equip = s.equip := rfl
@[simp] theorem State.setA_autoLoading (v : Word) : (s.setA v).autoLoading = s.autoLoading := rfl
@[simp] theorem State.setA_codeParity (v : Word) : (s.setA v).codeParity = s.codeParity := rfl
@[simp] theorem State.setA_env (v : Word) : (s.setA v).env = s.env := rfl
@[simp] theorem State.setA_inter (v : Word) : (s.setA v).inter = s.inter := rfl
@[simp] theorem State.setA_cfg (v : Word) : (s.setA v).cfg = s.cfg := rfl
@[simp] theorem State.setA_freeCount (v : Word) : (s.setA v).freeCount = s.freeCount := rfl

@[simp] theorem State.setQ_a (v : Word) : (s.setQ v).a = s.a := rfl
@[simp] theorem State.setQ_q (v : Word) : (s.setQ v).q = v := rfl
@[simp] theorem State.setQ_b (v : Word) : (s.setQ v).b = s.b := rfl
@[simp] theorem State.setQ_p (v : Word) : (s.setQ v).p = s.p := rfl
@[simp] theorem State.setQ_half (v : Word) : (s.setQ v).half = s.half := rfl
@[simp] theorem State.setQ_u (v : Word) : (s.setQ v).u = s.u := rfl
@[simp] theorem State.setQ_uHeld (v : Word) : (s.setQ v).uHeld = s.uHeld := rfl
@[simp] theorem State.setQ_aug (v : Word) : (s.setQ v).aug = s.aug := rfl
@[simp] theorem State.setQ_intr (v : Word) : (s.setQ v).intr = s.intr := rfl
@[simp] theorem State.setQ_mask (v : Word) : (s.setQ v).mask = s.mask := rfl
@[simp] theorem State.setQ_ctl (v : Word) : (s.setQ v).ctl = s.ctl := rfl
@[simp] theorem State.setQ_bu (v : Word) : (s.setQ v).bu = s.bu := rfl
@[simp] theorem State.setQ_bl (v : Word) : (s.setQ v).bl = s.bl := rfl
@[simp] theorem State.setQ_running (v : Word) : (s.setQ v).running = s.running := rfl
@[simp] theorem State.setQ_slsStopped (v : Word) : (s.setQ v).slsStopped = s.slsStopped := rfl
@[simp] theorem State.setQ_chans (v : Word) : (s.setQ v).chans = s.chans := rfl
@[simp] theorem State.setQ_mem (v : Word) : (s.setQ v).mem = s.mem := rfl
@[simp] theorem State.setQ_console (v : Word) : (s.setQ v).console = s.console := rfl
@[simp] theorem State.setQ_equip (v : Word) : (s.setQ v).equip = s.equip := rfl
@[simp] theorem State.setQ_autoLoading (v : Word) : (s.setQ v).autoLoading = s.autoLoading := rfl
@[simp] theorem State.setQ_codeParity (v : Word) : (s.setQ v).codeParity = s.codeParity := rfl
@[simp] theorem State.setQ_env (v : Word) : (s.setQ v).env = s.env := rfl
@[simp] theorem State.setQ_inter (v : Word) : (s.setQ v).inter = s.inter := rfl
@[simp] theorem State.setQ_cfg (v : Word) : (s.setQ v).cfg = s.cfg := rfl
@[simp] theorem State.setQ_freeCount (v : Word) : (s.setQ v).freeCount = s.freeCount := rfl

@[simp] theorem State.setB_a (v : IndexRegs) : (s.setB v).a = s.a := rfl
@[simp] theorem State.setB_q (v : IndexRegs) : (s.setB v).q = s.q := rfl
@[simp] theorem State.setB_b (v : IndexRegs) : (s.setB v).b = v := rfl
@[simp] theorem State.setB_p (v : IndexRegs) : (s.setB v).p = s.p := rfl
@[simp] theorem State.setB_half (v : IndexRegs) : (s.setB v).half = s.half := rfl
@[simp] theorem State.setB_u (v : IndexRegs) : (s.setB v).u = s.u := rfl
@[simp] theorem State.setB_uHeld (v : IndexRegs) : (s.setB v).uHeld = s.uHeld := rfl
@[simp] theorem State.setB_aug (v : IndexRegs) : (s.setB v).aug = s.aug := rfl
@[simp] theorem State.setB_intr (v : IndexRegs) : (s.setB v).intr = s.intr := rfl
@[simp] theorem State.setB_mask (v : IndexRegs) : (s.setB v).mask = s.mask := rfl
@[simp] theorem State.setB_ctl (v : IndexRegs) : (s.setB v).ctl = s.ctl := rfl
@[simp] theorem State.setB_bu (v : IndexRegs) : (s.setB v).bu = s.bu := rfl
@[simp] theorem State.setB_bl (v : IndexRegs) : (s.setB v).bl = s.bl := rfl
@[simp] theorem State.setB_running (v : IndexRegs) : (s.setB v).running = s.running := rfl
@[simp] theorem State.setB_slsStopped (v : IndexRegs) : (s.setB v).slsStopped = s.slsStopped := rfl
@[simp] theorem State.setB_chans (v : IndexRegs) : (s.setB v).chans = s.chans := rfl
@[simp] theorem State.setB_mem (v : IndexRegs) : (s.setB v).mem = s.mem := rfl
@[simp] theorem State.setB_console (v : IndexRegs) : (s.setB v).console = s.console := rfl
@[simp] theorem State.setB_equip (v : IndexRegs) : (s.setB v).equip = s.equip := rfl
@[simp] theorem State.setB_autoLoading (v : IndexRegs) : (s.setB v).autoLoading = s.autoLoading := rfl
@[simp] theorem State.setB_codeParity (v : IndexRegs) : (s.setB v).codeParity = s.codeParity := rfl
@[simp] theorem State.setB_env (v : IndexRegs) : (s.setB v).env = s.env := rfl
@[simp] theorem State.setB_inter (v : IndexRegs) : (s.setB v).inter = s.inter := rfl
@[simp] theorem State.setB_cfg (v : IndexRegs) : (s.setB v).cfg = s.cfg := rfl
@[simp] theorem State.setB_freeCount (v : IndexRegs) : (s.setB v).freeCount = s.freeCount := rfl

@[simp] theorem State.setP_a (v : Addr) : (s.setP v).a = s.a := rfl
@[simp] theorem State.setP_q (v : Addr) : (s.setP v).q = s.q := rfl
@[simp] theorem State.setP_b (v : Addr) : (s.setP v).b = s.b := rfl
@[simp] theorem State.setP_p (v : Addr) : (s.setP v).p = v := rfl
@[simp] theorem State.setP_half (v : Addr) : (s.setP v).half = s.half := rfl
@[simp] theorem State.setP_u (v : Addr) : (s.setP v).u = s.u := rfl
@[simp] theorem State.setP_uHeld (v : Addr) : (s.setP v).uHeld = s.uHeld := rfl
@[simp] theorem State.setP_aug (v : Addr) : (s.setP v).aug = s.aug := rfl
@[simp] theorem State.setP_intr (v : Addr) : (s.setP v).intr = s.intr := rfl
@[simp] theorem State.setP_mask (v : Addr) : (s.setP v).mask = s.mask := rfl
@[simp] theorem State.setP_ctl (v : Addr) : (s.setP v).ctl = s.ctl := rfl
@[simp] theorem State.setP_bu (v : Addr) : (s.setP v).bu = s.bu := rfl
@[simp] theorem State.setP_bl (v : Addr) : (s.setP v).bl = s.bl := rfl
@[simp] theorem State.setP_running (v : Addr) : (s.setP v).running = s.running := rfl
@[simp] theorem State.setP_slsStopped (v : Addr) : (s.setP v).slsStopped = s.slsStopped := rfl
@[simp] theorem State.setP_chans (v : Addr) : (s.setP v).chans = s.chans := rfl
@[simp] theorem State.setP_mem (v : Addr) : (s.setP v).mem = s.mem := rfl
@[simp] theorem State.setP_console (v : Addr) : (s.setP v).console = s.console := rfl
@[simp] theorem State.setP_equip (v : Addr) : (s.setP v).equip = s.equip := rfl
@[simp] theorem State.setP_autoLoading (v : Addr) : (s.setP v).autoLoading = s.autoLoading := rfl
@[simp] theorem State.setP_codeParity (v : Addr) : (s.setP v).codeParity = s.codeParity := rfl
@[simp] theorem State.setP_env (v : Addr) : (s.setP v).env = s.env := rfl
@[simp] theorem State.setP_inter (v : Addr) : (s.setP v).inter = s.inter := rfl
@[simp] theorem State.setP_cfg (v : Addr) : (s.setP v).cfg = s.cfg := rfl
@[simp] theorem State.setP_freeCount (v : Addr) : (s.setP v).freeCount = s.freeCount := rfl

@[simp] theorem State.setHalf_a (v : Half) : (s.setHalf v).a = s.a := rfl
@[simp] theorem State.setHalf_q (v : Half) : (s.setHalf v).q = s.q := rfl
@[simp] theorem State.setHalf_b (v : Half) : (s.setHalf v).b = s.b := rfl
@[simp] theorem State.setHalf_p (v : Half) : (s.setHalf v).p = s.p := rfl
@[simp] theorem State.setHalf_half (v : Half) : (s.setHalf v).half = v := rfl
@[simp] theorem State.setHalf_u (v : Half) : (s.setHalf v).u = s.u := rfl
@[simp] theorem State.setHalf_uHeld (v : Half) : (s.setHalf v).uHeld = s.uHeld := rfl
@[simp] theorem State.setHalf_aug (v : Half) : (s.setHalf v).aug = s.aug := rfl
@[simp] theorem State.setHalf_intr (v : Half) : (s.setHalf v).intr = s.intr := rfl
@[simp] theorem State.setHalf_mask (v : Half) : (s.setHalf v).mask = s.mask := rfl
@[simp] theorem State.setHalf_ctl (v : Half) : (s.setHalf v).ctl = s.ctl := rfl
@[simp] theorem State.setHalf_bu (v : Half) : (s.setHalf v).bu = s.bu := rfl
@[simp] theorem State.setHalf_bl (v : Half) : (s.setHalf v).bl = s.bl := rfl
@[simp] theorem State.setHalf_running (v : Half) : (s.setHalf v).running = s.running := rfl
@[simp] theorem State.setHalf_slsStopped (v : Half) : (s.setHalf v).slsStopped = s.slsStopped := rfl
@[simp] theorem State.setHalf_chans (v : Half) : (s.setHalf v).chans = s.chans := rfl
@[simp] theorem State.setHalf_mem (v : Half) : (s.setHalf v).mem = s.mem := rfl
@[simp] theorem State.setHalf_console (v : Half) : (s.setHalf v).console = s.console := rfl
@[simp] theorem State.setHalf_equip (v : Half) : (s.setHalf v).equip = s.equip := rfl
@[simp] theorem State.setHalf_autoLoading (v : Half) : (s.setHalf v).autoLoading = s.autoLoading := rfl
@[simp] theorem State.setHalf_codeParity (v : Half) : (s.setHalf v).codeParity = s.codeParity := rfl
@[simp] theorem State.setHalf_env (v : Half) : (s.setHalf v).env = s.env := rfl
@[simp] theorem State.setHalf_inter (v : Half) : (s.setHalf v).inter = s.inter := rfl
@[simp] theorem State.setHalf_cfg (v : Half) : (s.setHalf v).cfg = s.cfg := rfl
@[simp] theorem State.setHalf_freeCount (v : Half) : (s.setHalf v).freeCount = s.freeCount := rfl

@[simp] theorem State.setU_a (v : Word) : (s.setU v).a = s.a := rfl
@[simp] theorem State.setU_q (v : Word) : (s.setU v).q = s.q := rfl
@[simp] theorem State.setU_b (v : Word) : (s.setU v).b = s.b := rfl
@[simp] theorem State.setU_p (v : Word) : (s.setU v).p = s.p := rfl
@[simp] theorem State.setU_half (v : Word) : (s.setU v).half = s.half := rfl
@[simp] theorem State.setU_u (v : Word) : (s.setU v).u = v := rfl
@[simp] theorem State.setU_uHeld (v : Word) : (s.setU v).uHeld = s.uHeld := rfl
@[simp] theorem State.setU_aug (v : Word) : (s.setU v).aug = s.aug := rfl
@[simp] theorem State.setU_intr (v : Word) : (s.setU v).intr = s.intr := rfl
@[simp] theorem State.setU_mask (v : Word) : (s.setU v).mask = s.mask := rfl
@[simp] theorem State.setU_ctl (v : Word) : (s.setU v).ctl = s.ctl := rfl
@[simp] theorem State.setU_bu (v : Word) : (s.setU v).bu = s.bu := rfl
@[simp] theorem State.setU_bl (v : Word) : (s.setU v).bl = s.bl := rfl
@[simp] theorem State.setU_running (v : Word) : (s.setU v).running = s.running := rfl
@[simp] theorem State.setU_slsStopped (v : Word) : (s.setU v).slsStopped = s.slsStopped := rfl
@[simp] theorem State.setU_chans (v : Word) : (s.setU v).chans = s.chans := rfl
@[simp] theorem State.setU_mem (v : Word) : (s.setU v).mem = s.mem := rfl
@[simp] theorem State.setU_console (v : Word) : (s.setU v).console = s.console := rfl
@[simp] theorem State.setU_equip (v : Word) : (s.setU v).equip = s.equip := rfl
@[simp] theorem State.setU_autoLoading (v : Word) : (s.setU v).autoLoading = s.autoLoading := rfl
@[simp] theorem State.setU_codeParity (v : Word) : (s.setU v).codeParity = s.codeParity := rfl
@[simp] theorem State.setU_env (v : Word) : (s.setU v).env = s.env := rfl
@[simp] theorem State.setU_inter (v : Word) : (s.setU v).inter = s.inter := rfl
@[simp] theorem State.setU_cfg (v : Word) : (s.setU v).cfg = s.cfg := rfl
@[simp] theorem State.setU_freeCount (v : Word) : (s.setU v).freeCount = s.freeCount := rfl

@[simp] theorem State.setUHeld_a (v : Bool) : (s.setUHeld v).a = s.a := rfl
@[simp] theorem State.setUHeld_q (v : Bool) : (s.setUHeld v).q = s.q := rfl
@[simp] theorem State.setUHeld_b (v : Bool) : (s.setUHeld v).b = s.b := rfl
@[simp] theorem State.setUHeld_p (v : Bool) : (s.setUHeld v).p = s.p := rfl
@[simp] theorem State.setUHeld_half (v : Bool) : (s.setUHeld v).half = s.half := rfl
@[simp] theorem State.setUHeld_u (v : Bool) : (s.setUHeld v).u = s.u := rfl
@[simp] theorem State.setUHeld_uHeld (v : Bool) : (s.setUHeld v).uHeld = v := rfl
@[simp] theorem State.setUHeld_aug (v : Bool) : (s.setUHeld v).aug = s.aug := rfl
@[simp] theorem State.setUHeld_intr (v : Bool) : (s.setUHeld v).intr = s.intr := rfl
@[simp] theorem State.setUHeld_mask (v : Bool) : (s.setUHeld v).mask = s.mask := rfl
@[simp] theorem State.setUHeld_ctl (v : Bool) : (s.setUHeld v).ctl = s.ctl := rfl
@[simp] theorem State.setUHeld_bu (v : Bool) : (s.setUHeld v).bu = s.bu := rfl
@[simp] theorem State.setUHeld_bl (v : Bool) : (s.setUHeld v).bl = s.bl := rfl
@[simp] theorem State.setUHeld_running (v : Bool) : (s.setUHeld v).running = s.running := rfl
@[simp] theorem State.setUHeld_slsStopped (v : Bool) : (s.setUHeld v).slsStopped = s.slsStopped := rfl
@[simp] theorem State.setUHeld_chans (v : Bool) : (s.setUHeld v).chans = s.chans := rfl
@[simp] theorem State.setUHeld_mem (v : Bool) : (s.setUHeld v).mem = s.mem := rfl
@[simp] theorem State.setUHeld_console (v : Bool) : (s.setUHeld v).console = s.console := rfl
@[simp] theorem State.setUHeld_equip (v : Bool) : (s.setUHeld v).equip = s.equip := rfl
@[simp] theorem State.setUHeld_autoLoading (v : Bool) : (s.setUHeld v).autoLoading = s.autoLoading := rfl
@[simp] theorem State.setUHeld_codeParity (v : Bool) : (s.setUHeld v).codeParity = s.codeParity := rfl
@[simp] theorem State.setUHeld_env (v : Bool) : (s.setUHeld v).env = s.env := rfl
@[simp] theorem State.setUHeld_inter (v : Bool) : (s.setUHeld v).inter = s.inter := rfl
@[simp] theorem State.setUHeld_cfg (v : Bool) : (s.setUHeld v).cfg = s.cfg := rfl
@[simp] theorem State.setUHeld_freeCount (v : Bool) : (s.setUHeld v).freeCount = s.freeCount := rfl

@[simp] theorem State.setAug_a (v : Aug) : (s.setAug v).a = s.a := rfl
@[simp] theorem State.setAug_q (v : Aug) : (s.setAug v).q = s.q := rfl
@[simp] theorem State.setAug_b (v : Aug) : (s.setAug v).b = s.b := rfl
@[simp] theorem State.setAug_p (v : Aug) : (s.setAug v).p = s.p := rfl
@[simp] theorem State.setAug_half (v : Aug) : (s.setAug v).half = s.half := rfl
@[simp] theorem State.setAug_u (v : Aug) : (s.setAug v).u = s.u := rfl
@[simp] theorem State.setAug_uHeld (v : Aug) : (s.setAug v).uHeld = s.uHeld := rfl
@[simp] theorem State.setAug_aug (v : Aug) : (s.setAug v).aug = v := rfl
@[simp] theorem State.setAug_intr (v : Aug) : (s.setAug v).intr = s.intr := rfl
@[simp] theorem State.setAug_mask (v : Aug) : (s.setAug v).mask = s.mask := rfl
@[simp] theorem State.setAug_ctl (v : Aug) : (s.setAug v).ctl = s.ctl := rfl
@[simp] theorem State.setAug_bu (v : Aug) : (s.setAug v).bu = s.bu := rfl
@[simp] theorem State.setAug_bl (v : Aug) : (s.setAug v).bl = s.bl := rfl
@[simp] theorem State.setAug_running (v : Aug) : (s.setAug v).running = s.running := rfl
@[simp] theorem State.setAug_slsStopped (v : Aug) : (s.setAug v).slsStopped = s.slsStopped := rfl
@[simp] theorem State.setAug_chans (v : Aug) : (s.setAug v).chans = s.chans := rfl
@[simp] theorem State.setAug_mem (v : Aug) : (s.setAug v).mem = s.mem := rfl
@[simp] theorem State.setAug_console (v : Aug) : (s.setAug v).console = s.console := rfl
@[simp] theorem State.setAug_equip (v : Aug) : (s.setAug v).equip = s.equip := rfl
@[simp] theorem State.setAug_autoLoading (v : Aug) : (s.setAug v).autoLoading = s.autoLoading := rfl
@[simp] theorem State.setAug_codeParity (v : Aug) : (s.setAug v).codeParity = s.codeParity := rfl
@[simp] theorem State.setAug_env (v : Aug) : (s.setAug v).env = s.env := rfl
@[simp] theorem State.setAug_inter (v : Aug) : (s.setAug v).inter = s.inter := rfl
@[simp] theorem State.setAug_cfg (v : Aug) : (s.setAug v).cfg = s.cfg := rfl
@[simp] theorem State.setAug_freeCount (v : Aug) : (s.setAug v).freeCount = s.freeCount := rfl

@[simp] theorem State.setIntr_a (v : Word) : (s.setIntr v).a = s.a := rfl
@[simp] theorem State.setIntr_q (v : Word) : (s.setIntr v).q = s.q := rfl
@[simp] theorem State.setIntr_b (v : Word) : (s.setIntr v).b = s.b := rfl
@[simp] theorem State.setIntr_p (v : Word) : (s.setIntr v).p = s.p := rfl
@[simp] theorem State.setIntr_half (v : Word) : (s.setIntr v).half = s.half := rfl
@[simp] theorem State.setIntr_u (v : Word) : (s.setIntr v).u = s.u := rfl
@[simp] theorem State.setIntr_uHeld (v : Word) : (s.setIntr v).uHeld = s.uHeld := rfl
@[simp] theorem State.setIntr_aug (v : Word) : (s.setIntr v).aug = s.aug := rfl
@[simp] theorem State.setIntr_intr (v : Word) : (s.setIntr v).intr = v := rfl
@[simp] theorem State.setIntr_mask (v : Word) : (s.setIntr v).mask = s.mask := rfl
@[simp] theorem State.setIntr_ctl (v : Word) : (s.setIntr v).ctl = s.ctl := rfl
@[simp] theorem State.setIntr_bu (v : Word) : (s.setIntr v).bu = s.bu := rfl
@[simp] theorem State.setIntr_bl (v : Word) : (s.setIntr v).bl = s.bl := rfl
@[simp] theorem State.setIntr_running (v : Word) : (s.setIntr v).running = s.running := rfl
@[simp] theorem State.setIntr_slsStopped (v : Word) : (s.setIntr v).slsStopped = s.slsStopped := rfl
@[simp] theorem State.setIntr_chans (v : Word) : (s.setIntr v).chans = s.chans := rfl
@[simp] theorem State.setIntr_mem (v : Word) : (s.setIntr v).mem = s.mem := rfl
@[simp] theorem State.setIntr_console (v : Word) : (s.setIntr v).console = s.console := rfl
@[simp] theorem State.setIntr_equip (v : Word) : (s.setIntr v).equip = s.equip := rfl
@[simp] theorem State.setIntr_autoLoading (v : Word) : (s.setIntr v).autoLoading = s.autoLoading := rfl
@[simp] theorem State.setIntr_codeParity (v : Word) : (s.setIntr v).codeParity = s.codeParity := rfl
@[simp] theorem State.setIntr_env (v : Word) : (s.setIntr v).env = s.env := rfl
@[simp] theorem State.setIntr_inter (v : Word) : (s.setIntr v).inter = s.inter := rfl
@[simp] theorem State.setIntr_cfg (v : Word) : (s.setIntr v).cfg = s.cfg := rfl
@[simp] theorem State.setIntr_freeCount (v : Word) : (s.setIntr v).freeCount = s.freeCount := rfl

@[simp] theorem State.setMask_a (v : Word) : (s.setMask v).a = s.a := rfl
@[simp] theorem State.setMask_q (v : Word) : (s.setMask v).q = s.q := rfl
@[simp] theorem State.setMask_b (v : Word) : (s.setMask v).b = s.b := rfl
@[simp] theorem State.setMask_p (v : Word) : (s.setMask v).p = s.p := rfl
@[simp] theorem State.setMask_half (v : Word) : (s.setMask v).half = s.half := rfl
@[simp] theorem State.setMask_u (v : Word) : (s.setMask v).u = s.u := rfl
@[simp] theorem State.setMask_uHeld (v : Word) : (s.setMask v).uHeld = s.uHeld := rfl
@[simp] theorem State.setMask_aug (v : Word) : (s.setMask v).aug = s.aug := rfl
@[simp] theorem State.setMask_intr (v : Word) : (s.setMask v).intr = s.intr := rfl
@[simp] theorem State.setMask_mask (v : Word) : (s.setMask v).mask = v := rfl
@[simp] theorem State.setMask_ctl (v : Word) : (s.setMask v).ctl = s.ctl := rfl
@[simp] theorem State.setMask_bu (v : Word) : (s.setMask v).bu = s.bu := rfl
@[simp] theorem State.setMask_bl (v : Word) : (s.setMask v).bl = s.bl := rfl
@[simp] theorem State.setMask_running (v : Word) : (s.setMask v).running = s.running := rfl
@[simp] theorem State.setMask_slsStopped (v : Word) : (s.setMask v).slsStopped = s.slsStopped := rfl
@[simp] theorem State.setMask_chans (v : Word) : (s.setMask v).chans = s.chans := rfl
@[simp] theorem State.setMask_mem (v : Word) : (s.setMask v).mem = s.mem := rfl
@[simp] theorem State.setMask_console (v : Word) : (s.setMask v).console = s.console := rfl
@[simp] theorem State.setMask_equip (v : Word) : (s.setMask v).equip = s.equip := rfl
@[simp] theorem State.setMask_autoLoading (v : Word) : (s.setMask v).autoLoading = s.autoLoading := rfl
@[simp] theorem State.setMask_codeParity (v : Word) : (s.setMask v).codeParity = s.codeParity := rfl
@[simp] theorem State.setMask_env (v : Word) : (s.setMask v).env = s.env := rfl
@[simp] theorem State.setMask_inter (v : Word) : (s.setMask v).inter = s.inter := rfl
@[simp] theorem State.setMask_cfg (v : Word) : (s.setMask v).cfg = s.cfg := rfl
@[simp] theorem State.setMask_freeCount (v : Word) : (s.setMask v).freeCount = s.freeCount := rfl

@[simp] theorem State.setCtl_a (v : IntCtl) : (s.setCtl v).a = s.a := rfl
@[simp] theorem State.setCtl_q (v : IntCtl) : (s.setCtl v).q = s.q := rfl
@[simp] theorem State.setCtl_b (v : IntCtl) : (s.setCtl v).b = s.b := rfl
@[simp] theorem State.setCtl_p (v : IntCtl) : (s.setCtl v).p = s.p := rfl
@[simp] theorem State.setCtl_half (v : IntCtl) : (s.setCtl v).half = s.half := rfl
@[simp] theorem State.setCtl_u (v : IntCtl) : (s.setCtl v).u = s.u := rfl
@[simp] theorem State.setCtl_uHeld (v : IntCtl) : (s.setCtl v).uHeld = s.uHeld := rfl
@[simp] theorem State.setCtl_aug (v : IntCtl) : (s.setCtl v).aug = s.aug := rfl
@[simp] theorem State.setCtl_intr (v : IntCtl) : (s.setCtl v).intr = s.intr := rfl
@[simp] theorem State.setCtl_mask (v : IntCtl) : (s.setCtl v).mask = s.mask := rfl
@[simp] theorem State.setCtl_ctl (v : IntCtl) : (s.setCtl v).ctl = v := rfl
@[simp] theorem State.setCtl_bu (v : IntCtl) : (s.setCtl v).bu = s.bu := rfl
@[simp] theorem State.setCtl_bl (v : IntCtl) : (s.setCtl v).bl = s.bl := rfl
@[simp] theorem State.setCtl_running (v : IntCtl) : (s.setCtl v).running = s.running := rfl
@[simp] theorem State.setCtl_slsStopped (v : IntCtl) : (s.setCtl v).slsStopped = s.slsStopped := rfl
@[simp] theorem State.setCtl_chans (v : IntCtl) : (s.setCtl v).chans = s.chans := rfl
@[simp] theorem State.setCtl_mem (v : IntCtl) : (s.setCtl v).mem = s.mem := rfl
@[simp] theorem State.setCtl_console (v : IntCtl) : (s.setCtl v).console = s.console := rfl
@[simp] theorem State.setCtl_equip (v : IntCtl) : (s.setCtl v).equip = s.equip := rfl
@[simp] theorem State.setCtl_autoLoading (v : IntCtl) : (s.setCtl v).autoLoading = s.autoLoading := rfl
@[simp] theorem State.setCtl_codeParity (v : IntCtl) : (s.setCtl v).codeParity = s.codeParity := rfl
@[simp] theorem State.setCtl_env (v : IntCtl) : (s.setCtl v).env = s.env := rfl
@[simp] theorem State.setCtl_inter (v : IntCtl) : (s.setCtl v).inter = s.inter := rfl
@[simp] theorem State.setCtl_cfg (v : IntCtl) : (s.setCtl v).cfg = s.cfg := rfl
@[simp] theorem State.setCtl_freeCount (v : IntCtl) : (s.setCtl v).freeCount = s.freeCount := rfl

@[simp] theorem State.setBu_a (v : BitVec 8) : (s.setBu v).a = s.a := rfl
@[simp] theorem State.setBu_q (v : BitVec 8) : (s.setBu v).q = s.q := rfl
@[simp] theorem State.setBu_b (v : BitVec 8) : (s.setBu v).b = s.b := rfl
@[simp] theorem State.setBu_p (v : BitVec 8) : (s.setBu v).p = s.p := rfl
@[simp] theorem State.setBu_half (v : BitVec 8) : (s.setBu v).half = s.half := rfl
@[simp] theorem State.setBu_u (v : BitVec 8) : (s.setBu v).u = s.u := rfl
@[simp] theorem State.setBu_uHeld (v : BitVec 8) : (s.setBu v).uHeld = s.uHeld := rfl
@[simp] theorem State.setBu_aug (v : BitVec 8) : (s.setBu v).aug = s.aug := rfl
@[simp] theorem State.setBu_intr (v : BitVec 8) : (s.setBu v).intr = s.intr := rfl
@[simp] theorem State.setBu_mask (v : BitVec 8) : (s.setBu v).mask = s.mask := rfl
@[simp] theorem State.setBu_ctl (v : BitVec 8) : (s.setBu v).ctl = s.ctl := rfl
@[simp] theorem State.setBu_bu (v : BitVec 8) : (s.setBu v).bu = v := rfl
@[simp] theorem State.setBu_bl (v : BitVec 8) : (s.setBu v).bl = s.bl := rfl
@[simp] theorem State.setBu_running (v : BitVec 8) : (s.setBu v).running = s.running := rfl
@[simp] theorem State.setBu_slsStopped (v : BitVec 8) : (s.setBu v).slsStopped = s.slsStopped := rfl
@[simp] theorem State.setBu_chans (v : BitVec 8) : (s.setBu v).chans = s.chans := rfl
@[simp] theorem State.setBu_mem (v : BitVec 8) : (s.setBu v).mem = s.mem := rfl
@[simp] theorem State.setBu_console (v : BitVec 8) : (s.setBu v).console = s.console := rfl
@[simp] theorem State.setBu_equip (v : BitVec 8) : (s.setBu v).equip = s.equip := rfl
@[simp] theorem State.setBu_autoLoading (v : BitVec 8) : (s.setBu v).autoLoading = s.autoLoading := rfl
@[simp] theorem State.setBu_codeParity (v : BitVec 8) : (s.setBu v).codeParity = s.codeParity := rfl
@[simp] theorem State.setBu_env (v : BitVec 8) : (s.setBu v).env = s.env := rfl
@[simp] theorem State.setBu_inter (v : BitVec 8) : (s.setBu v).inter = s.inter := rfl
@[simp] theorem State.setBu_cfg (v : BitVec 8) : (s.setBu v).cfg = s.cfg := rfl
@[simp] theorem State.setBu_freeCount (v : BitVec 8) : (s.setBu v).freeCount = s.freeCount := rfl

@[simp] theorem State.setBl_a (v : BitVec 8) : (s.setBl v).a = s.a := rfl
@[simp] theorem State.setBl_q (v : BitVec 8) : (s.setBl v).q = s.q := rfl
@[simp] theorem State.setBl_b (v : BitVec 8) : (s.setBl v).b = s.b := rfl
@[simp] theorem State.setBl_p (v : BitVec 8) : (s.setBl v).p = s.p := rfl
@[simp] theorem State.setBl_half (v : BitVec 8) : (s.setBl v).half = s.half := rfl
@[simp] theorem State.setBl_u (v : BitVec 8) : (s.setBl v).u = s.u := rfl
@[simp] theorem State.setBl_uHeld (v : BitVec 8) : (s.setBl v).uHeld = s.uHeld := rfl
@[simp] theorem State.setBl_aug (v : BitVec 8) : (s.setBl v).aug = s.aug := rfl
@[simp] theorem State.setBl_intr (v : BitVec 8) : (s.setBl v).intr = s.intr := rfl
@[simp] theorem State.setBl_mask (v : BitVec 8) : (s.setBl v).mask = s.mask := rfl
@[simp] theorem State.setBl_ctl (v : BitVec 8) : (s.setBl v).ctl = s.ctl := rfl
@[simp] theorem State.setBl_bu (v : BitVec 8) : (s.setBl v).bu = s.bu := rfl
@[simp] theorem State.setBl_bl (v : BitVec 8) : (s.setBl v).bl = v := rfl
@[simp] theorem State.setBl_running (v : BitVec 8) : (s.setBl v).running = s.running := rfl
@[simp] theorem State.setBl_slsStopped (v : BitVec 8) : (s.setBl v).slsStopped = s.slsStopped := rfl
@[simp] theorem State.setBl_chans (v : BitVec 8) : (s.setBl v).chans = s.chans := rfl
@[simp] theorem State.setBl_mem (v : BitVec 8) : (s.setBl v).mem = s.mem := rfl
@[simp] theorem State.setBl_console (v : BitVec 8) : (s.setBl v).console = s.console := rfl
@[simp] theorem State.setBl_equip (v : BitVec 8) : (s.setBl v).equip = s.equip := rfl
@[simp] theorem State.setBl_autoLoading (v : BitVec 8) : (s.setBl v).autoLoading = s.autoLoading := rfl
@[simp] theorem State.setBl_codeParity (v : BitVec 8) : (s.setBl v).codeParity = s.codeParity := rfl
@[simp] theorem State.setBl_env (v : BitVec 8) : (s.setBl v).env = s.env := rfl
@[simp] theorem State.setBl_inter (v : BitVec 8) : (s.setBl v).inter = s.inter := rfl
@[simp] theorem State.setBl_cfg (v : BitVec 8) : (s.setBl v).cfg = s.cfg := rfl
@[simp] theorem State.setBl_freeCount (v : BitVec 8) : (s.setBl v).freeCount = s.freeCount := rfl

@[simp] theorem State.setRunning_a (v : Bool) : (s.setRunning v).a = s.a := rfl
@[simp] theorem State.setRunning_q (v : Bool) : (s.setRunning v).q = s.q := rfl
@[simp] theorem State.setRunning_b (v : Bool) : (s.setRunning v).b = s.b := rfl
@[simp] theorem State.setRunning_p (v : Bool) : (s.setRunning v).p = s.p := rfl
@[simp] theorem State.setRunning_half (v : Bool) : (s.setRunning v).half = s.half := rfl
@[simp] theorem State.setRunning_u (v : Bool) : (s.setRunning v).u = s.u := rfl
@[simp] theorem State.setRunning_uHeld (v : Bool) : (s.setRunning v).uHeld = s.uHeld := rfl
@[simp] theorem State.setRunning_aug (v : Bool) : (s.setRunning v).aug = s.aug := rfl
@[simp] theorem State.setRunning_intr (v : Bool) : (s.setRunning v).intr = s.intr := rfl
@[simp] theorem State.setRunning_mask (v : Bool) : (s.setRunning v).mask = s.mask := rfl
@[simp] theorem State.setRunning_ctl (v : Bool) : (s.setRunning v).ctl = s.ctl := rfl
@[simp] theorem State.setRunning_bu (v : Bool) : (s.setRunning v).bu = s.bu := rfl
@[simp] theorem State.setRunning_bl (v : Bool) : (s.setRunning v).bl = s.bl := rfl
@[simp] theorem State.setRunning_running (v : Bool) : (s.setRunning v).running = v := rfl
@[simp] theorem State.setRunning_slsStopped (v : Bool) : (s.setRunning v).slsStopped = s.slsStopped := rfl
@[simp] theorem State.setRunning_chans (v : Bool) : (s.setRunning v).chans = s.chans := rfl
@[simp] theorem State.setRunning_mem (v : Bool) : (s.setRunning v).mem = s.mem := rfl
@[simp] theorem State.setRunning_console (v : Bool) : (s.setRunning v).console = s.console := rfl
@[simp] theorem State.setRunning_equip (v : Bool) : (s.setRunning v).equip = s.equip := rfl
@[simp] theorem State.setRunning_autoLoading (v : Bool) : (s.setRunning v).autoLoading = s.autoLoading := rfl
@[simp] theorem State.setRunning_codeParity (v : Bool) : (s.setRunning v).codeParity = s.codeParity := rfl
@[simp] theorem State.setRunning_env (v : Bool) : (s.setRunning v).env = s.env := rfl
@[simp] theorem State.setRunning_inter (v : Bool) : (s.setRunning v).inter = s.inter := rfl
@[simp] theorem State.setRunning_cfg (v : Bool) : (s.setRunning v).cfg = s.cfg := rfl
@[simp] theorem State.setRunning_freeCount (v : Bool) : (s.setRunning v).freeCount = s.freeCount := rfl

@[simp] theorem State.setSlsStopped_a (v : Bool) : (s.setSlsStopped v).a = s.a := rfl
@[simp] theorem State.setSlsStopped_q (v : Bool) : (s.setSlsStopped v).q = s.q := rfl
@[simp] theorem State.setSlsStopped_b (v : Bool) : (s.setSlsStopped v).b = s.b := rfl
@[simp] theorem State.setSlsStopped_p (v : Bool) : (s.setSlsStopped v).p = s.p := rfl
@[simp] theorem State.setSlsStopped_half (v : Bool) : (s.setSlsStopped v).half = s.half := rfl
@[simp] theorem State.setSlsStopped_u (v : Bool) : (s.setSlsStopped v).u = s.u := rfl
@[simp] theorem State.setSlsStopped_uHeld (v : Bool) : (s.setSlsStopped v).uHeld = s.uHeld := rfl
@[simp] theorem State.setSlsStopped_aug (v : Bool) : (s.setSlsStopped v).aug = s.aug := rfl
@[simp] theorem State.setSlsStopped_intr (v : Bool) : (s.setSlsStopped v).intr = s.intr := rfl
@[simp] theorem State.setSlsStopped_mask (v : Bool) : (s.setSlsStopped v).mask = s.mask := rfl
@[simp] theorem State.setSlsStopped_ctl (v : Bool) : (s.setSlsStopped v).ctl = s.ctl := rfl
@[simp] theorem State.setSlsStopped_bu (v : Bool) : (s.setSlsStopped v).bu = s.bu := rfl
@[simp] theorem State.setSlsStopped_bl (v : Bool) : (s.setSlsStopped v).bl = s.bl := rfl
@[simp] theorem State.setSlsStopped_running (v : Bool) : (s.setSlsStopped v).running = s.running := rfl
@[simp] theorem State.setSlsStopped_slsStopped (v : Bool) : (s.setSlsStopped v).slsStopped = v := rfl
@[simp] theorem State.setSlsStopped_chans (v : Bool) : (s.setSlsStopped v).chans = s.chans := rfl
@[simp] theorem State.setSlsStopped_mem (v : Bool) : (s.setSlsStopped v).mem = s.mem := rfl
@[simp] theorem State.setSlsStopped_console (v : Bool) : (s.setSlsStopped v).console = s.console := rfl
@[simp] theorem State.setSlsStopped_equip (v : Bool) : (s.setSlsStopped v).equip = s.equip := rfl
@[simp] theorem State.setSlsStopped_autoLoading (v : Bool) : (s.setSlsStopped v).autoLoading = s.autoLoading := rfl
@[simp] theorem State.setSlsStopped_codeParity (v : Bool) : (s.setSlsStopped v).codeParity = s.codeParity := rfl
@[simp] theorem State.setSlsStopped_env (v : Bool) : (s.setSlsStopped v).env = s.env := rfl
@[simp] theorem State.setSlsStopped_inter (v : Bool) : (s.setSlsStopped v).inter = s.inter := rfl
@[simp] theorem State.setSlsStopped_cfg (v : Bool) : (s.setSlsStopped v).cfg = s.cfg := rfl
@[simp] theorem State.setSlsStopped_freeCount (v : Bool) : (s.setSlsStopped v).freeCount = s.freeCount := rfl

@[simp] theorem State.setChans_a (v : Channels) : (s.setChans v).a = s.a := rfl
@[simp] theorem State.setChans_q (v : Channels) : (s.setChans v).q = s.q := rfl
@[simp] theorem State.setChans_b (v : Channels) : (s.setChans v).b = s.b := rfl
@[simp] theorem State.setChans_p (v : Channels) : (s.setChans v).p = s.p := rfl
@[simp] theorem State.setChans_half (v : Channels) : (s.setChans v).half = s.half := rfl
@[simp] theorem State.setChans_u (v : Channels) : (s.setChans v).u = s.u := rfl
@[simp] theorem State.setChans_uHeld (v : Channels) : (s.setChans v).uHeld = s.uHeld := rfl
@[simp] theorem State.setChans_aug (v : Channels) : (s.setChans v).aug = s.aug := rfl
@[simp] theorem State.setChans_intr (v : Channels) : (s.setChans v).intr = s.intr := rfl
@[simp] theorem State.setChans_mask (v : Channels) : (s.setChans v).mask = s.mask := rfl
@[simp] theorem State.setChans_ctl (v : Channels) : (s.setChans v).ctl = s.ctl := rfl
@[simp] theorem State.setChans_bu (v : Channels) : (s.setChans v).bu = s.bu := rfl
@[simp] theorem State.setChans_bl (v : Channels) : (s.setChans v).bl = s.bl := rfl
@[simp] theorem State.setChans_running (v : Channels) : (s.setChans v).running = s.running := rfl
@[simp] theorem State.setChans_slsStopped (v : Channels) : (s.setChans v).slsStopped = s.slsStopped := rfl
@[simp] theorem State.setChans_chans (v : Channels) : (s.setChans v).chans = v := rfl
@[simp] theorem State.setChans_mem (v : Channels) : (s.setChans v).mem = s.mem := rfl
@[simp] theorem State.setChans_console (v : Channels) : (s.setChans v).console = s.console := rfl
@[simp] theorem State.setChans_equip (v : Channels) : (s.setChans v).equip = s.equip := rfl
@[simp] theorem State.setChans_autoLoading (v : Channels) : (s.setChans v).autoLoading = s.autoLoading := rfl
@[simp] theorem State.setChans_codeParity (v : Channels) : (s.setChans v).codeParity = s.codeParity := rfl
@[simp] theorem State.setChans_env (v : Channels) : (s.setChans v).env = s.env := rfl
@[simp] theorem State.setChans_inter (v : Channels) : (s.setChans v).inter = s.inter := rfl
@[simp] theorem State.setChans_cfg (v : Channels) : (s.setChans v).cfg = s.cfg := rfl
@[simp] theorem State.setChans_freeCount (v : Channels) : (s.setChans v).freeCount = s.freeCount := rfl

@[simp] theorem State.setMem_a (v : Memory) : (s.setMem v).a = s.a := rfl
@[simp] theorem State.setMem_q (v : Memory) : (s.setMem v).q = s.q := rfl
@[simp] theorem State.setMem_b (v : Memory) : (s.setMem v).b = s.b := rfl
@[simp] theorem State.setMem_p (v : Memory) : (s.setMem v).p = s.p := rfl
@[simp] theorem State.setMem_half (v : Memory) : (s.setMem v).half = s.half := rfl
@[simp] theorem State.setMem_u (v : Memory) : (s.setMem v).u = s.u := rfl
@[simp] theorem State.setMem_uHeld (v : Memory) : (s.setMem v).uHeld = s.uHeld := rfl
@[simp] theorem State.setMem_aug (v : Memory) : (s.setMem v).aug = s.aug := rfl
@[simp] theorem State.setMem_intr (v : Memory) : (s.setMem v).intr = s.intr := rfl
@[simp] theorem State.setMem_mask (v : Memory) : (s.setMem v).mask = s.mask := rfl
@[simp] theorem State.setMem_ctl (v : Memory) : (s.setMem v).ctl = s.ctl := rfl
@[simp] theorem State.setMem_bu (v : Memory) : (s.setMem v).bu = s.bu := rfl
@[simp] theorem State.setMem_bl (v : Memory) : (s.setMem v).bl = s.bl := rfl
@[simp] theorem State.setMem_running (v : Memory) : (s.setMem v).running = s.running := rfl
@[simp] theorem State.setMem_slsStopped (v : Memory) : (s.setMem v).slsStopped = s.slsStopped := rfl
@[simp] theorem State.setMem_chans (v : Memory) : (s.setMem v).chans = s.chans := rfl
@[simp] theorem State.setMem_mem (v : Memory) : (s.setMem v).mem = v := rfl
@[simp] theorem State.setMem_console (v : Memory) : (s.setMem v).console = s.console := rfl
@[simp] theorem State.setMem_equip (v : Memory) : (s.setMem v).equip = s.equip := rfl
@[simp] theorem State.setMem_autoLoading (v : Memory) : (s.setMem v).autoLoading = s.autoLoading := rfl
@[simp] theorem State.setMem_codeParity (v : Memory) : (s.setMem v).codeParity = s.codeParity := rfl
@[simp] theorem State.setMem_env (v : Memory) : (s.setMem v).env = s.env := rfl
@[simp] theorem State.setMem_inter (v : Memory) : (s.setMem v).inter = s.inter := rfl
@[simp] theorem State.setMem_cfg (v : Memory) : (s.setMem v).cfg = s.cfg := rfl
@[simp] theorem State.setMem_freeCount (v : Memory) : (s.setMem v).freeCount = s.freeCount := rfl

@[simp] theorem State.setConsole_a (v : Console) : (s.setConsole v).a = s.a := rfl
@[simp] theorem State.setConsole_q (v : Console) : (s.setConsole v).q = s.q := rfl
@[simp] theorem State.setConsole_b (v : Console) : (s.setConsole v).b = s.b := rfl
@[simp] theorem State.setConsole_p (v : Console) : (s.setConsole v).p = s.p := rfl
@[simp] theorem State.setConsole_half (v : Console) : (s.setConsole v).half = s.half := rfl
@[simp] theorem State.setConsole_u (v : Console) : (s.setConsole v).u = s.u := rfl
@[simp] theorem State.setConsole_uHeld (v : Console) : (s.setConsole v).uHeld = s.uHeld := rfl
@[simp] theorem State.setConsole_aug (v : Console) : (s.setConsole v).aug = s.aug := rfl
@[simp] theorem State.setConsole_intr (v : Console) : (s.setConsole v).intr = s.intr := rfl
@[simp] theorem State.setConsole_mask (v : Console) : (s.setConsole v).mask = s.mask := rfl
@[simp] theorem State.setConsole_ctl (v : Console) : (s.setConsole v).ctl = s.ctl := rfl
@[simp] theorem State.setConsole_bu (v : Console) : (s.setConsole v).bu = s.bu := rfl
@[simp] theorem State.setConsole_bl (v : Console) : (s.setConsole v).bl = s.bl := rfl
@[simp] theorem State.setConsole_running (v : Console) : (s.setConsole v).running = s.running := rfl
@[simp] theorem State.setConsole_slsStopped (v : Console) : (s.setConsole v).slsStopped = s.slsStopped := rfl
@[simp] theorem State.setConsole_chans (v : Console) : (s.setConsole v).chans = s.chans := rfl
@[simp] theorem State.setConsole_mem (v : Console) : (s.setConsole v).mem = s.mem := rfl
@[simp] theorem State.setConsole_console (v : Console) : (s.setConsole v).console = v := rfl
@[simp] theorem State.setConsole_equip (v : Console) : (s.setConsole v).equip = s.equip := rfl
@[simp] theorem State.setConsole_autoLoading (v : Console) : (s.setConsole v).autoLoading = s.autoLoading := rfl
@[simp] theorem State.setConsole_codeParity (v : Console) : (s.setConsole v).codeParity = s.codeParity := rfl
@[simp] theorem State.setConsole_env (v : Console) : (s.setConsole v).env = s.env := rfl
@[simp] theorem State.setConsole_inter (v : Console) : (s.setConsole v).inter = s.inter := rfl
@[simp] theorem State.setConsole_cfg (v : Console) : (s.setConsole v).cfg = s.cfg := rfl
@[simp] theorem State.setConsole_freeCount (v : Console) : (s.setConsole v).freeCount = s.freeCount := rfl

@[simp] theorem State.setEquip_a (v : List Attached) : (s.setEquip v).a = s.a := rfl
@[simp] theorem State.setEquip_q (v : List Attached) : (s.setEquip v).q = s.q := rfl
@[simp] theorem State.setEquip_b (v : List Attached) : (s.setEquip v).b = s.b := rfl
@[simp] theorem State.setEquip_p (v : List Attached) : (s.setEquip v).p = s.p := rfl
@[simp] theorem State.setEquip_half (v : List Attached) : (s.setEquip v).half = s.half := rfl
@[simp] theorem State.setEquip_u (v : List Attached) : (s.setEquip v).u = s.u := rfl
@[simp] theorem State.setEquip_uHeld (v : List Attached) : (s.setEquip v).uHeld = s.uHeld := rfl
@[simp] theorem State.setEquip_aug (v : List Attached) : (s.setEquip v).aug = s.aug := rfl
@[simp] theorem State.setEquip_intr (v : List Attached) : (s.setEquip v).intr = s.intr := rfl
@[simp] theorem State.setEquip_mask (v : List Attached) : (s.setEquip v).mask = s.mask := rfl
@[simp] theorem State.setEquip_ctl (v : List Attached) : (s.setEquip v).ctl = s.ctl := rfl
@[simp] theorem State.setEquip_bu (v : List Attached) : (s.setEquip v).bu = s.bu := rfl
@[simp] theorem State.setEquip_bl (v : List Attached) : (s.setEquip v).bl = s.bl := rfl
@[simp] theorem State.setEquip_running (v : List Attached) : (s.setEquip v).running = s.running := rfl
@[simp] theorem State.setEquip_slsStopped (v : List Attached) : (s.setEquip v).slsStopped = s.slsStopped := rfl
@[simp] theorem State.setEquip_chans (v : List Attached) : (s.setEquip v).chans = s.chans := rfl
@[simp] theorem State.setEquip_mem (v : List Attached) : (s.setEquip v).mem = s.mem := rfl
@[simp] theorem State.setEquip_console (v : List Attached) : (s.setEquip v).console = s.console := rfl
@[simp] theorem State.setEquip_equip (v : List Attached) : (s.setEquip v).equip = v := rfl
@[simp] theorem State.setEquip_autoLoading (v : List Attached) : (s.setEquip v).autoLoading = s.autoLoading := rfl
@[simp] theorem State.setEquip_codeParity (v : List Attached) : (s.setEquip v).codeParity = s.codeParity := rfl
@[simp] theorem State.setEquip_env (v : List Attached) : (s.setEquip v).env = s.env := rfl
@[simp] theorem State.setEquip_inter (v : List Attached) : (s.setEquip v).inter = s.inter := rfl
@[simp] theorem State.setEquip_cfg (v : List Attached) : (s.setEquip v).cfg = s.cfg := rfl
@[simp] theorem State.setEquip_freeCount (v : List Attached) : (s.setEquip v).freeCount = s.freeCount := rfl

@[simp] theorem State.setAutoLoading_a (v : Option ChanId) : (s.setAutoLoading v).a = s.a := rfl
@[simp] theorem State.setAutoLoading_q (v : Option ChanId) : (s.setAutoLoading v).q = s.q := rfl
@[simp] theorem State.setAutoLoading_b (v : Option ChanId) : (s.setAutoLoading v).b = s.b := rfl
@[simp] theorem State.setAutoLoading_p (v : Option ChanId) : (s.setAutoLoading v).p = s.p := rfl
@[simp] theorem State.setAutoLoading_half (v : Option ChanId) : (s.setAutoLoading v).half = s.half := rfl
@[simp] theorem State.setAutoLoading_u (v : Option ChanId) : (s.setAutoLoading v).u = s.u := rfl
@[simp] theorem State.setAutoLoading_uHeld (v : Option ChanId) : (s.setAutoLoading v).uHeld = s.uHeld := rfl
@[simp] theorem State.setAutoLoading_aug (v : Option ChanId) : (s.setAutoLoading v).aug = s.aug := rfl
@[simp] theorem State.setAutoLoading_intr (v : Option ChanId) : (s.setAutoLoading v).intr = s.intr := rfl
@[simp] theorem State.setAutoLoading_mask (v : Option ChanId) : (s.setAutoLoading v).mask = s.mask := rfl
@[simp] theorem State.setAutoLoading_ctl (v : Option ChanId) : (s.setAutoLoading v).ctl = s.ctl := rfl
@[simp] theorem State.setAutoLoading_bu (v : Option ChanId) : (s.setAutoLoading v).bu = s.bu := rfl
@[simp] theorem State.setAutoLoading_bl (v : Option ChanId) : (s.setAutoLoading v).bl = s.bl := rfl
@[simp] theorem State.setAutoLoading_running (v : Option ChanId) : (s.setAutoLoading v).running = s.running := rfl
@[simp] theorem State.setAutoLoading_slsStopped (v : Option ChanId) : (s.setAutoLoading v).slsStopped = s.slsStopped := rfl
@[simp] theorem State.setAutoLoading_chans (v : Option ChanId) : (s.setAutoLoading v).chans = s.chans := rfl
@[simp] theorem State.setAutoLoading_mem (v : Option ChanId) : (s.setAutoLoading v).mem = s.mem := rfl
@[simp] theorem State.setAutoLoading_console (v : Option ChanId) : (s.setAutoLoading v).console = s.console := rfl
@[simp] theorem State.setAutoLoading_equip (v : Option ChanId) : (s.setAutoLoading v).equip = s.equip := rfl
@[simp] theorem State.setAutoLoading_autoLoading (v : Option ChanId) : (s.setAutoLoading v).autoLoading = v := rfl
@[simp] theorem State.setAutoLoading_codeParity (v : Option ChanId) : (s.setAutoLoading v).codeParity = s.codeParity := rfl
@[simp] theorem State.setAutoLoading_env (v : Option ChanId) : (s.setAutoLoading v).env = s.env := rfl
@[simp] theorem State.setAutoLoading_inter (v : Option ChanId) : (s.setAutoLoading v).inter = s.inter := rfl
@[simp] theorem State.setAutoLoading_cfg (v : Option ChanId) : (s.setAutoLoading v).cfg = s.cfg := rfl
@[simp] theorem State.setAutoLoading_freeCount (v : Option ChanId) : (s.setAutoLoading v).freeCount = s.freeCount := rfl

@[simp] theorem State.setCodeParity_a (v : Bool) : (s.setCodeParity v).a = s.a := rfl
@[simp] theorem State.setCodeParity_q (v : Bool) : (s.setCodeParity v).q = s.q := rfl
@[simp] theorem State.setCodeParity_b (v : Bool) : (s.setCodeParity v).b = s.b := rfl
@[simp] theorem State.setCodeParity_p (v : Bool) : (s.setCodeParity v).p = s.p := rfl
@[simp] theorem State.setCodeParity_half (v : Bool) : (s.setCodeParity v).half = s.half := rfl
@[simp] theorem State.setCodeParity_u (v : Bool) : (s.setCodeParity v).u = s.u := rfl
@[simp] theorem State.setCodeParity_uHeld (v : Bool) : (s.setCodeParity v).uHeld = s.uHeld := rfl
@[simp] theorem State.setCodeParity_aug (v : Bool) : (s.setCodeParity v).aug = s.aug := rfl
@[simp] theorem State.setCodeParity_intr (v : Bool) : (s.setCodeParity v).intr = s.intr := rfl
@[simp] theorem State.setCodeParity_mask (v : Bool) : (s.setCodeParity v).mask = s.mask := rfl
@[simp] theorem State.setCodeParity_ctl (v : Bool) : (s.setCodeParity v).ctl = s.ctl := rfl
@[simp] theorem State.setCodeParity_bu (v : Bool) : (s.setCodeParity v).bu = s.bu := rfl
@[simp] theorem State.setCodeParity_bl (v : Bool) : (s.setCodeParity v).bl = s.bl := rfl
@[simp] theorem State.setCodeParity_running (v : Bool) : (s.setCodeParity v).running = s.running := rfl
@[simp] theorem State.setCodeParity_slsStopped (v : Bool) : (s.setCodeParity v).slsStopped = s.slsStopped := rfl
@[simp] theorem State.setCodeParity_chans (v : Bool) : (s.setCodeParity v).chans = s.chans := rfl
@[simp] theorem State.setCodeParity_mem (v : Bool) : (s.setCodeParity v).mem = s.mem := rfl
@[simp] theorem State.setCodeParity_console (v : Bool) : (s.setCodeParity v).console = s.console := rfl
@[simp] theorem State.setCodeParity_equip (v : Bool) : (s.setCodeParity v).equip = s.equip := rfl
@[simp] theorem State.setCodeParity_autoLoading (v : Bool) : (s.setCodeParity v).autoLoading = s.autoLoading := rfl
@[simp] theorem State.setCodeParity_codeParity (v : Bool) : (s.setCodeParity v).codeParity = v := rfl
@[simp] theorem State.setCodeParity_env (v : Bool) : (s.setCodeParity v).env = s.env := rfl
@[simp] theorem State.setCodeParity_inter (v : Bool) : (s.setCodeParity v).inter = s.inter := rfl
@[simp] theorem State.setCodeParity_cfg (v : Bool) : (s.setCodeParity v).cfg = s.cfg := rfl
@[simp] theorem State.setCodeParity_freeCount (v : Bool) : (s.setCodeParity v).freeCount = s.freeCount := rfl

@[simp] theorem State.setEnv_a (v : List Event) : (s.setEnv v).a = s.a := rfl
@[simp] theorem State.setEnv_q (v : List Event) : (s.setEnv v).q = s.q := rfl
@[simp] theorem State.setEnv_b (v : List Event) : (s.setEnv v).b = s.b := rfl
@[simp] theorem State.setEnv_p (v : List Event) : (s.setEnv v).p = s.p := rfl
@[simp] theorem State.setEnv_half (v : List Event) : (s.setEnv v).half = s.half := rfl
@[simp] theorem State.setEnv_u (v : List Event) : (s.setEnv v).u = s.u := rfl
@[simp] theorem State.setEnv_uHeld (v : List Event) : (s.setEnv v).uHeld = s.uHeld := rfl
@[simp] theorem State.setEnv_aug (v : List Event) : (s.setEnv v).aug = s.aug := rfl
@[simp] theorem State.setEnv_intr (v : List Event) : (s.setEnv v).intr = s.intr := rfl
@[simp] theorem State.setEnv_mask (v : List Event) : (s.setEnv v).mask = s.mask := rfl
@[simp] theorem State.setEnv_ctl (v : List Event) : (s.setEnv v).ctl = s.ctl := rfl
@[simp] theorem State.setEnv_bu (v : List Event) : (s.setEnv v).bu = s.bu := rfl
@[simp] theorem State.setEnv_bl (v : List Event) : (s.setEnv v).bl = s.bl := rfl
@[simp] theorem State.setEnv_running (v : List Event) : (s.setEnv v).running = s.running := rfl
@[simp] theorem State.setEnv_slsStopped (v : List Event) : (s.setEnv v).slsStopped = s.slsStopped := rfl
@[simp] theorem State.setEnv_chans (v : List Event) : (s.setEnv v).chans = s.chans := rfl
@[simp] theorem State.setEnv_mem (v : List Event) : (s.setEnv v).mem = s.mem := rfl
@[simp] theorem State.setEnv_console (v : List Event) : (s.setEnv v).console = s.console := rfl
@[simp] theorem State.setEnv_equip (v : List Event) : (s.setEnv v).equip = s.equip := rfl
@[simp] theorem State.setEnv_autoLoading (v : List Event) : (s.setEnv v).autoLoading = s.autoLoading := rfl
@[simp] theorem State.setEnv_codeParity (v : List Event) : (s.setEnv v).codeParity = s.codeParity := rfl
@[simp] theorem State.setEnv_env (v : List Event) : (s.setEnv v).env = v := rfl
@[simp] theorem State.setEnv_inter (v : List Event) : (s.setEnv v).inter = s.inter := rfl
@[simp] theorem State.setEnv_cfg (v : List Event) : (s.setEnv v).cfg = s.cfg := rfl
@[simp] theorem State.setEnv_freeCount (v : List Event) : (s.setEnv v).freeCount = s.freeCount := rfl

@[simp] theorem State.setInter_a (v : List (List ChannelEvent)) : (s.setInter v).a = s.a := rfl
@[simp] theorem State.setInter_q (v : List (List ChannelEvent)) : (s.setInter v).q = s.q := rfl
@[simp] theorem State.setInter_b (v : List (List ChannelEvent)) : (s.setInter v).b = s.b := rfl
@[simp] theorem State.setInter_p (v : List (List ChannelEvent)) : (s.setInter v).p = s.p := rfl
@[simp] theorem State.setInter_half (v : List (List ChannelEvent)) : (s.setInter v).half = s.half := rfl
@[simp] theorem State.setInter_u (v : List (List ChannelEvent)) : (s.setInter v).u = s.u := rfl
@[simp] theorem State.setInter_uHeld (v : List (List ChannelEvent)) : (s.setInter v).uHeld = s.uHeld := rfl
@[simp] theorem State.setInter_aug (v : List (List ChannelEvent)) : (s.setInter v).aug = s.aug := rfl
@[simp] theorem State.setInter_intr (v : List (List ChannelEvent)) : (s.setInter v).intr = s.intr := rfl
@[simp] theorem State.setInter_mask (v : List (List ChannelEvent)) : (s.setInter v).mask = s.mask := rfl
@[simp] theorem State.setInter_ctl (v : List (List ChannelEvent)) : (s.setInter v).ctl = s.ctl := rfl
@[simp] theorem State.setInter_bu (v : List (List ChannelEvent)) : (s.setInter v).bu = s.bu := rfl
@[simp] theorem State.setInter_bl (v : List (List ChannelEvent)) : (s.setInter v).bl = s.bl := rfl
@[simp] theorem State.setInter_running (v : List (List ChannelEvent)) : (s.setInter v).running = s.running := rfl
@[simp] theorem State.setInter_slsStopped (v : List (List ChannelEvent)) : (s.setInter v).slsStopped = s.slsStopped := rfl
@[simp] theorem State.setInter_chans (v : List (List ChannelEvent)) : (s.setInter v).chans = s.chans := rfl
@[simp] theorem State.setInter_mem (v : List (List ChannelEvent)) : (s.setInter v).mem = s.mem := rfl
@[simp] theorem State.setInter_console (v : List (List ChannelEvent)) : (s.setInter v).console = s.console := rfl
@[simp] theorem State.setInter_equip (v : List (List ChannelEvent)) : (s.setInter v).equip = s.equip := rfl
@[simp] theorem State.setInter_autoLoading (v : List (List ChannelEvent)) : (s.setInter v).autoLoading = s.autoLoading := rfl
@[simp] theorem State.setInter_codeParity (v : List (List ChannelEvent)) : (s.setInter v).codeParity = s.codeParity := rfl
@[simp] theorem State.setInter_env (v : List (List ChannelEvent)) : (s.setInter v).env = s.env := rfl
@[simp] theorem State.setInter_inter (v : List (List ChannelEvent)) : (s.setInter v).inter = v := rfl
@[simp] theorem State.setInter_cfg (v : List (List ChannelEvent)) : (s.setInter v).cfg = s.cfg := rfl
@[simp] theorem State.setInter_freeCount (v : List (List ChannelEvent)) : (s.setInter v).freeCount = s.freeCount := rfl

@[simp] theorem State.setCfg_a (v : Config) : (s.setCfg v).a = s.a := rfl
@[simp] theorem State.setCfg_q (v : Config) : (s.setCfg v).q = s.q := rfl
@[simp] theorem State.setCfg_b (v : Config) : (s.setCfg v).b = s.b := rfl
@[simp] theorem State.setCfg_p (v : Config) : (s.setCfg v).p = s.p := rfl
@[simp] theorem State.setCfg_half (v : Config) : (s.setCfg v).half = s.half := rfl
@[simp] theorem State.setCfg_u (v : Config) : (s.setCfg v).u = s.u := rfl
@[simp] theorem State.setCfg_uHeld (v : Config) : (s.setCfg v).uHeld = s.uHeld := rfl
@[simp] theorem State.setCfg_aug (v : Config) : (s.setCfg v).aug = s.aug := rfl
@[simp] theorem State.setCfg_intr (v : Config) : (s.setCfg v).intr = s.intr := rfl
@[simp] theorem State.setCfg_mask (v : Config) : (s.setCfg v).mask = s.mask := rfl
@[simp] theorem State.setCfg_ctl (v : Config) : (s.setCfg v).ctl = s.ctl := rfl
@[simp] theorem State.setCfg_bu (v : Config) : (s.setCfg v).bu = s.bu := rfl
@[simp] theorem State.setCfg_bl (v : Config) : (s.setCfg v).bl = s.bl := rfl
@[simp] theorem State.setCfg_running (v : Config) : (s.setCfg v).running = s.running := rfl
@[simp] theorem State.setCfg_slsStopped (v : Config) : (s.setCfg v).slsStopped = s.slsStopped := rfl
@[simp] theorem State.setCfg_chans (v : Config) : (s.setCfg v).chans = s.chans := rfl
@[simp] theorem State.setCfg_mem (v : Config) : (s.setCfg v).mem = s.mem := rfl
@[simp] theorem State.setCfg_console (v : Config) : (s.setCfg v).console = s.console := rfl
@[simp] theorem State.setCfg_equip (v : Config) : (s.setCfg v).equip = s.equip := rfl
@[simp] theorem State.setCfg_autoLoading (v : Config) : (s.setCfg v).autoLoading = s.autoLoading := rfl
@[simp] theorem State.setCfg_codeParity (v : Config) : (s.setCfg v).codeParity = s.codeParity := rfl
@[simp] theorem State.setCfg_env (v : Config) : (s.setCfg v).env = s.env := rfl
@[simp] theorem State.setCfg_inter (v : Config) : (s.setCfg v).inter = s.inter := rfl
@[simp] theorem State.setCfg_cfg (v : Config) : (s.setCfg v).cfg = v := rfl
@[simp] theorem State.setCfg_freeCount (v : Config) : (s.setCfg v).freeCount = s.freeCount := rfl

@[simp] theorem State.setFreeCount_a (v : Nat) : (s.setFreeCount v).a = s.a := rfl
@[simp] theorem State.setFreeCount_q (v : Nat) : (s.setFreeCount v).q = s.q := rfl
@[simp] theorem State.setFreeCount_b (v : Nat) : (s.setFreeCount v).b = s.b := rfl
@[simp] theorem State.setFreeCount_p (v : Nat) : (s.setFreeCount v).p = s.p := rfl
@[simp] theorem State.setFreeCount_half (v : Nat) : (s.setFreeCount v).half = s.half := rfl
@[simp] theorem State.setFreeCount_u (v : Nat) : (s.setFreeCount v).u = s.u := rfl
@[simp] theorem State.setFreeCount_uHeld (v : Nat) : (s.setFreeCount v).uHeld = s.uHeld := rfl
@[simp] theorem State.setFreeCount_aug (v : Nat) : (s.setFreeCount v).aug = s.aug := rfl
@[simp] theorem State.setFreeCount_intr (v : Nat) : (s.setFreeCount v).intr = s.intr := rfl
@[simp] theorem State.setFreeCount_mask (v : Nat) : (s.setFreeCount v).mask = s.mask := rfl
@[simp] theorem State.setFreeCount_ctl (v : Nat) : (s.setFreeCount v).ctl = s.ctl := rfl
@[simp] theorem State.setFreeCount_bu (v : Nat) : (s.setFreeCount v).bu = s.bu := rfl
@[simp] theorem State.setFreeCount_bl (v : Nat) : (s.setFreeCount v).bl = s.bl := rfl
@[simp] theorem State.setFreeCount_running (v : Nat) : (s.setFreeCount v).running = s.running := rfl
@[simp] theorem State.setFreeCount_slsStopped (v : Nat) : (s.setFreeCount v).slsStopped = s.slsStopped := rfl
@[simp] theorem State.setFreeCount_chans (v : Nat) : (s.setFreeCount v).chans = s.chans := rfl
@[simp] theorem State.setFreeCount_mem (v : Nat) : (s.setFreeCount v).mem = s.mem := rfl
@[simp] theorem State.setFreeCount_console (v : Nat) : (s.setFreeCount v).console = s.console := rfl
@[simp] theorem State.setFreeCount_equip (v : Nat) : (s.setFreeCount v).equip = s.equip := rfl
@[simp] theorem State.setFreeCount_autoLoading (v : Nat) : (s.setFreeCount v).autoLoading = s.autoLoading := rfl
@[simp] theorem State.setFreeCount_codeParity (v : Nat) : (s.setFreeCount v).codeParity = s.codeParity := rfl
@[simp] theorem State.setFreeCount_env (v : Nat) : (s.setFreeCount v).env = s.env := rfl
@[simp] theorem State.setFreeCount_inter (v : Nat) : (s.setFreeCount v).inter = s.inter := rfl
@[simp] theorem State.setFreeCount_cfg (v : Nat) : (s.setFreeCount v).cfg = s.cfg := rfl
@[simp] theorem State.setFreeCount_freeCount (v : Nat) : (s.setFreeCount v).freeCount = v := rfl

end

end Sys2Proof.Machine
end

