-- ==== Sys2Proof/Laws/Ops.lean ====
section
/-! SUPPORT. What each shared operation gives, once: reads and writes of registers, storage references with no channel
event before them, the end of an instruction, and the frame of an operation's own effect. -/

namespace Sys2Proof.Machine

/-! ### Registers -/

@[simp] theorem IndexRegs.get_put (b : IndexRegs) (r : Ix) (v : Addr) : (b.put r v).get r = v := by
  cases r <;> rfl

theorem IndexRegs.get_put_ne (b : IndexRegs) (r q : Ix) (v : Addr) (h : q ≠ r) : (b.put r v).get q = b.get q := by
  cases r <;> cases q <;> first | rfl | exact absurd rfl h

@[simp] theorem State.ix_setIx (s : State) (r : Ix) (v : Addr) : (s.setIx r v).ix r = v := by
  simp [State.ix, State.setIx]

theorem State.ix_setIx_ne (s : State) (r q : Ix) (v : Addr) (h : q ≠ r) : (s.setIx r v).ix q = s.ix q := by
  simp [State.ix, State.setIx, IndexRegs.get_put_ne _ _ _ _ h]

@[simp] theorem Channels.get_put (cs : Channels) (x : ChanId) (c : Channel) : (cs.put x c).get x = c := by
  cases x <;> rfl

theorem Channels.get_put_ne (cs : Channels) (x y : ChanId) (c : Channel) (h : y ≠ x) :
    (cs.put x c).get y = cs.get y := by
  cases x <;> cases y <;> first | rfl | exact absurd rfl h

@[simp] theorem State.chan_setChan (s : State) (x : ChanId) (c : Channel) : (s.setChan x c).chan x = c := by
  simp [State.chan, State.setChan]

theorem State.chan_setChan_ne (s : State) (x y : ChanId) (c : Channel) (h : y ≠ x) :
    (s.setChan x c).chan y = s.chan y := by
  simp [State.chan, State.setChan, Channels.get_put_ne _ _ _ _ h]

/-! ### Storage references with no channel event before them -/

/-- All a point inside an instruction can do: nothing where no channel event is to come, else the next batch. -/
theorem reference_cases {s t : State} (h : reference s = .ok t) :
    (s.inter = [] ∧ t = s) ∨ ∃ es rest, s.inter = es :: rest ∧ channelEvents es (s.setInter rest) = .ok t := by
  simp only [reference] at h
  split at h
  · cases h; exact .inl ⟨by assumption, rfl⟩
  · exact .inr ⟨_, _, by assumption, h⟩

theorem reference_ready {s : State} (h : s.inter = []) : reference s = .ok s := by
  simp [reference, h]

theorem readMem_ready {s : State} {a : Addr} (h : s.inter = []) (ha : s.installed a = true) :
    readMem a s = .ok (s.mem.readWord a, s) := by
  simp [readMem, reference_ready h, ha]

/-- A read with no channel event before it gives the word and leaves the state, or faults. -/
theorem readMem_quiet {s t : State} {a : Addr} {w : Word} (h : s.inter = []) (hr : readMem a s = .ok (w, t)) :
    t = s ∧ w = s.mem.readWord a ∧ s.installed a = true := by
  simp only [readMem, reference_ready h] at hr
  split at hr
  · cases hr; exact ⟨rfl, rfl, by assumption⟩
  · cases hr

theorem modifyMem_ready {s : State} {a : Addr} {f : Word → Word} (h : s.inter = []) (hb : s.outOfBounds a = false)
    (ha : s.installed a = true) :
    modifyMem a f s = .ok (s.setMem (s.mem.writeWord a (f (s.mem.readWord a)))) := by
  simp [modifyMem, hb, reference_ready h, ha]

theorem modifyMem_outOfBounds {s : State} {a : Addr} {f : Word → Word} (hb : s.outOfBounds a = true) :
    modifyMem a f s = .ok (s.setFault 42) := by
  simp [modifyMem, hb]

/-- All a read can do: the channel events of its reference, and the word of an installed address. -/
theorem readMem_cases {s t : State} {a : Addr} {w : Word} (h : readMem a s = .ok (w, t)) :
    reference s = .ok t ∧ t.installed a = true ∧ w = t.mem.readWord a := by
  simp only [readMem] at h
  split at h
  · split at h
    · cases h; exact ⟨by assumption, by assumption, rfl⟩
    · cases h
  · cases h

/-- All a store can do: bit 42 where the bounds forbid it, or the channel events of its reference and the word. -/
theorem modifyMem_cases {s t : State} {a : Addr} {f : Word → Word} (h : modifyMem a f s = .ok t) :
    (s.outOfBounds a = true ∧ t = s.setFault 42) ∨
      (s.outOfBounds a = false ∧
        ∃ u, reference s = .ok u ∧ u.installed a = true ∧
          t = u.setMem (u.mem.writeWord a (f (u.mem.readWord a)))) := by
  simp only [modifyMem] at h
  split at h
  · cases h; exact .inl ⟨by assumption, rfl⟩
  · rename_i hb
    split at h
    · split at h
      · cases h; exact .inr ⟨by simpa using hb, _, by assumption, by assumption, rfl⟩
      · cases h
    · cases h

/-- All a return jump can do: it is turned away by the bounds, or it stores P + 1 and goes to the lower half. -/
theorem returnJump_cases {s t : State} {a : Addr} (h : returnJump a s = .ok t) :
    (s.outOfBounds a = true ∧ t = s.advance.setFault 42) ∨
      (s.outOfBounds a = false ∧ ∃ u, writePart a 24 (s.p + 1) s = .ok u ∧ t = u.goto a .lower) := by
  simp only [returnJump] at h
  split at h
  · cases h; exact .inl ⟨by assumption, rfl⟩
  · rename_i hb
    split at h
    · cases h; exact .inr ⟨by simpa using hb, _, by assumption, rfl⟩
    · cases h

/-- All the entry of an interrupt can do. -/
theorem takeInterrupt_cases {s t : State} {c : Category} (h : takeInterrupt c s = .ok t) :
    ∃ u, reference s = .ok u ∧ t = u.enter c := by
  simp only [takeInterrupt] at h
  split at h
  · cases h; exact ⟨_, by assumption, rfl⟩
  · cases h

/-- All the end of an instruction can do: the designators' end, the channel events before the sampling point, then an
interrupt where one is pending. -/
theorem complete_cases {h : Half} {s t : State} (e : complete h s = .ok t) :
    ∃ u, reference (s.endAug h) = .ok u ∧
      ((u.pending = false ∧ t = u) ∨ (u.pending = true ∧ takeInterrupt .one u = .ok t)) := by
  simp only [complete] at e
  split at e
  · refine ⟨_, by assumption, ?_⟩
    simp only [sample] at e
    split at e
    · exact .inr ⟨by assumption, e⟩
    · rename_i hp
      cases e; exact .inl ⟨by simpa using hp, rfl⟩
  · cases e

/-- A next state of an instruction that is no normal jump comes from its own effect and its end. -/
theorem finish_cases {s t : State} {r : Res State} (h : finish s r = .next t) :
    ∃ u, r = .ok u ∧ s.atExit = false ∧ complete s.half u = .ok t := by
  cases r with
  | error e => cases e <;> cases h
  | ok u =>
    simp only [finish] at h
    split at h
    · cases h
    · rename_i ha
      cases hc : complete s.half u with
      | error e => rw [hc] at h; cases e <;> cases h
      | ok v => rw [hc] at h; cases h; exact ⟨u, rfl, by simpa using ha, hc⟩

/-- The same for one without a continuation of its own. -/
theorem finishSeq_cases {s t : State} {r : Res State} (h : finishSeq s r = .next t) :
    ∃ u, r = .ok u ∧ s.atExit = false ∧ complete s.half u.advance = .ok t := by
  cases r with
  | error e => cases e <;> cases h
  | ok u =>
    obtain ⟨v, hv, ha, hc⟩ := finish_cases (r := .ok u.advance) h
    cases hv
    exact ⟨u, rfl, ha, hc⟩

/-- The same for a normal jump: at an exit point it was taken, and lands. -/
theorem finishJump_cases {s t : State} {taken : Bool} {r : Res State} (h : finishJump s taken r = .next t) :
    ∃ u, r = .ok u ∧
      ((s.atExit = false ∧ complete s.half u = .ok t) ∨
        (s.atExit = true ∧ taken = true ∧ complete s.half u.exitLand = .ok t)) := by
  cases r with
  | error e => cases e <;> cases h
  | ok u =>
    refine ⟨u, rfl, ?_⟩
    simp only [finishJump] at h
    cases ha : s.atExit with
    | false =>
      simp only [ha] at h
      cases hc : complete s.half u with
      | error e => rw [hc] at h; cases e <;> cases h
      | ok v => rw [hc] at h; cases h; exact .inl ⟨rfl, rfl⟩
    | true =>
      cases taken with
      | false => simp only [ha] at h; cases h
      | true =>
        simp only [ha] at h
        cases hc : complete s.half u.exitLand with
        | error e => rw [if_pos trivial, if_pos trivial, hc] at h; cases e <;> cases h
        | ok v => rw [if_pos trivial, if_pos trivial, hc] at h; cases h; exact .inr ⟨rfl, rfl, rfl⟩

/-! ### Operands -/

theorem resolve_zero (m : Addr) (s : State) : resolve .zero m s = .ok ((none, m), s) := by
  simp [resolve, resolveIn, State.chainLimit]

theorem resolve_ix (r : Ix) (m : Addr) (s : State) : resolve (.ix r) m s = .ok ((some r, m), s) := by
  simp [resolve, resolveIn, State.chainLimit]

theorem resolveIn_zero (n : Nat) (m : Addr) (s : State) : resolveIn n .zero m s = .ok ((none, m), s) := by
  cases n <;> rfl

theorem resolveIn_ix (n : Nat) (r : Ix) (m : Addr) (s : State) : resolveIn n (.ix r) m s = .ok ((some r, m), s) := by
  cases n <;> rfl

/-- One level of indirect addressing. -/
theorem resolveIn_seven {n : Nat} {m : Addr} {s : State} (h : s.inter = []) (hi : s.installed m = true) :
    resolveIn (n + 1) .seven m s =
      resolveIn n (.ofBits (field (s.mem.readWord m) 15 3)) (lowerAddr (s.mem.readWord m)) s := by
  simp only [resolveIn, readMem_ready h hi]

theorem resolveIn_quiet (n : Nat) (b : Desig) (m : Addr) (s t : State) (x : Option Ix × Addr) (h : s.inter = [])
    (hr : resolveIn n b m s = .ok (x, t)) : t = s := by
  induction n generalizing b m with
  | zero =>
    cases b with
    | zero => simp only [resolveIn] at hr; cases hr; rfl
    | ix r => simp only [resolveIn] at hr; cases hr; rfl
    | seven => simp only [resolveIn] at hr; cases hr
  | succ n ih =>
    cases b with
    | zero => simp only [resolveIn] at hr; cases hr; rfl
    | ix r => simp only [resolveIn] at hr; cases hr; rfl
    | seven =>
      simp only [resolveIn] at hr
      split at hr
      · rename_i hw
        obtain ⟨rfl, -, -⟩ := readMem_quiet h hw
        exact ih _ _ hr
      · cases hr

/-- Resolution with no channel event in it leaves the state. -/
theorem resolve_quiet {b : Desig} {m : Addr} {s t : State} {x : Option Ix × Addr} (h : s.inter = [])
    (hr : resolve b m s = .ok (x, t)) : t = s :=
  resolveIn_quiet _ b m s t x h hr

theorem effective_of_resolves {b : Desig} {m a : Addr} {s : State} {r : Option Ix} (h : Resolves b m s r a) :
    effective b m s = .ok (s.modify r a, s) := by
  simp only [Resolves] at h
  simp [effective, h]

/-! ### The end of an instruction -/

theorem takeInterrupt_ready {s : State} (c : Category) (h : s.inter = []) : takeInterrupt c s = .ok (s.enter c) := by
  simp [takeInterrupt, reference_ready h]

@[simp] theorem State.endAug_inter (h : Half) (s : State) : (s.endAug h).inter = s.inter := by
  cases h <;> rfl

theorem complete_ready {before t : State} (h : t.inter = []) :
    complete before.half t = .ok (before.completed t) := by
  have h' : (t.endAug before.half).inter = [] := by simpa using h
  simp only [complete, reference_ready h', sample, State.completed]
  split
  · exact takeInterrupt_ready .one h'
  · rfl

theorem finish_ready {s t : State} (hs : s.atExit = false) (ht : t.inter = []) :
    finish s (.ok t) = .next (s.completed t) := by
  simp [finish, hs, complete_ready ht, Res.outcome]

theorem finishSeq_ready {s t : State} (hs : s.atExit = false) (ht : t.inter = []) :
    finishSeq s (.ok t) = .next (s.completed t.advance) := by
  have h : t.advance.inter = [] := by
    simp only [State.advance]
    split <;> simpa [State.nextStep] using ht
  simp [finishSeq, finish_ready hs h]

theorem finishJump_ready {s t : State} {taken : Bool} (hs : s.atExit = false) (ht : t.inter = []) :
    finishJump s taken (.ok t) = .next (s.completed t) := by
  simp [finishJump, hs, complete_ready ht, Res.outcome]

end Sys2Proof.Machine
end

