-- ==== Sys2Proof/Laws/Effects.lean ====
section
/-! SUPPORT. What the shared forms of a meaning give when an instruction is ready: operands, stores, the end of an
instruction, jumps and skips, sums and differences, channels. -/

namespace Sys2Proof.Machine

/-! ### Fields of a word -/

theorem getLsbD_field {w : Nat} (x : BitVec w) (lo len j : Nat) :
    (field x lo len).getLsbD j = (decide (j < len) && x.getLsbD (lo + j)) := by
  simp [field, BitVec.getLsbD_extractLsb']

theorem getLsbD_setField {len : Nat} (w : Word) (lo : Nat) (v : BitVec len) (hlen : lo + len ≤ 48) (j : Nat) :
    (setField w lo v).getLsbD j = if lo ≤ j ∧ j < lo + len then v.getLsbD (j - lo) else w.getLsbD j := by
  by_cases hj : j < 48
  · simp only [setField, BitVec.getLsbD_or, BitVec.getLsbD_and, BitVec.getLsbD_not, BitVec.getLsbD_shiftLeft,
      BitVec.getLsbD_setWidth, BitVec.getLsbD_allOnes, hj]
    by_cases h1 : lo ≤ j
    · by_cases h2 : j < lo + len
      · have h3 : j - lo < 48 := by omega
        have h4 : j - lo < len := by omega
        have h5 : ¬j < lo := by omega
        simp [h1, h2, h3, h4, h5]
      · have h4 : ¬j - lo < len := by omega
        have h5 : v.getLsbD (j - lo) = false := BitVec.getLsbD_of_ge _ _ (by omega)
        simp [h2, h4, h5]
    · have h5 : j < lo := by omega
      simp [h1, h5]
  · have h1 : ¬(lo ≤ j ∧ j < lo + len) := by omega
    rw [if_neg h1, BitVec.getLsbD_of_ge _ _ (by omega), BitVec.getLsbD_of_ge _ _ (by omega)]

theorem getLsbD_bitWord (n j : Nat) (hn : n < 48) : (bitWord n).getLsbD j = decide (j = n) := by
  simp only [bitWord, BitVec.getLsbD_shiftLeft, BitVec.getLsbD_one]
  by_cases h : j = n
  · subst h; simp [hn]
  · by_cases h1 : j < n
    · simp [h, h1]
    · have : j - n ≠ 0 := by omega
      simp [h, this]

/-! ### Operands -/

theorem onEffective_ready {b : Desig} {m a : Addr} {s : State} {f : Addr → State → Res State}
    (ha : Effective b m s a) : onEffective b m f s = f a s := by
  simp only [Effective] at ha
  simp only [onEffective, ha]

theorem onResolved_ready {b : Desig} {m a : Addr} {s : State} {r : Option Ix}
    {f : Option Ix → Addr → State → Res State} (ha : Resolves b m s r a) : onResolved b m f s = f r a s := by
  simp only [Resolves] at ha
  simp only [onResolved, ha]

theorem onOperand_ready {b : Desig} {m a : Addr} {s : State} {f : Word → State → State} (hs : s.Ready)
    (ha : Effective b m s a) (hi : s.installed a = true) : onOperand b m f s = .ok (f (s.mem.readWord a) s) := by
  simp only [Effective] at ha
  simp only [onOperand, operand, ha, readMem_ready hs.1 hi]

theorem onShift_ready {b : Desig} {k n : Addr} {s : State} {f : Nat → State → State} (ha : Effective b k s n) :
    onShift b k f s = .ok (f (shiftCount n) (s.shiftFault n)) := by
  simp only [onShift, onEffective_ready ha]

theorem shiftCount_eq (n : Addr) : shiftCount n = n.toNat % 128 := by
  simp [shiftCount, field, BitVec.extractLsb'_toNat]

/-! ### The next instruction in sequence -/

@[simp] theorem State.advance_inter (s : State) : s.advance.inter = s.inter := by
  simp only [State.advance]; split <;> rfl

@[simp] theorem State.nextStep_inter (s : State) : s.nextStep.inter = s.inter := rfl

@[simp] theorem State.skipIf_inter (s : State) (c : Bool) : (s.skipIf c).inter = s.inter := by
  cases c <;> simp [State.skipIf, State.skipLower]

theorem State.advance_setFault (s : State) (n : Nat) :
    s.advance.setFault n = s.advance.setIntr (s.intr ||| bitWord n) := by
  simp only [State.advance]; split <;> rfl

theorem finishSeq_of {s t : State} (hs : s.Ready) (ht : t.inter = s.inter) :
    finishSeq s (.ok t) = .next (s.completed t.advance) :=
  finishSeq_ready hs.2 (ht.trans hs.1)

theorem finish_of {s t : State} (hs : s.Ready) (ht : t.inter = s.inter) :
    finish s (.ok t) = .next (s.completed t) :=
  finish_ready hs.2 (ht.trans hs.1)

theorem finishJump_of {s t : State} {taken : Bool} (hs : s.Ready) (ht : t.inter = s.inter) :
    finishJump s taken (.ok t) = .next (s.completed t) :=
  finishJump_ready hs.2 (ht.trans hs.1)

/-! ### Jumps -/

theorem condJump_taken {m : Addr} {s : State} (hs : s.Ready) (ho : s.outOfBounds m = false) :
    condJump true m s = .next (s.completed (((s.setP m).setHalf .upper).setUHeld false)) := by
  simp only [condJump, if_true, normalJump, ho]
  exact finishJump_of hs rfl

theorem condJump_outOfBounds {m : Addr} {s : State} (hs : s.Ready) (ho : s.outOfBounds m = true) :
    condJump true m s = .next (s.completed (s.advance.setIntr (s.intr ||| bitWord 42))) := by
  simp only [condJump, if_true, normalJump, ho]
  rw [State.advance_setFault]
  exact finishJump_of hs (by simp [State.setIntr])

theorem condJump_not {m : Addr} {s : State} (hs : s.Ready) :
    condJump false m s = .next (s.completed s.advance) := by
  simp only [condJump]
  exact finishJump_of hs (by simp)

theorem condReturn_taken {m : Addr} {s : State} (hs : s.Ready) (ho : s.outOfBounds m = false)
    (hi : s.installed m = true) :
    condReturn true m s = .next (s.completed
      ((((s.setMem (s.mem.writeWord m (setField (s.mem.readWord m) 24 (s.p + 1)))).setP m).setHalf .lower).setUHeld
        false)) := by
  simp only [condReturn, if_true, returnJump, writePart, ho, modifyMem_ready hs.1 ho hi]
  exact finish_of hs rfl

theorem condReturn_outOfBounds {m : Addr} {s : State} (hs : s.Ready) (ho : s.outOfBounds m = true) :
    condReturn true m s = .next (s.completed (s.advance.setIntr (s.intr ||| bitWord 42))) := by
  simp only [condReturn, if_true, returnJump, ho]
  rw [State.advance_setFault]
  exact finish_of hs (by simp [State.setIntr])

theorem condReturn_not {m : Addr} {s : State} (hs : s.Ready) :
    condReturn false m s = .next (s.completed s.advance) := by
  simp only [condReturn]
  exact finish_of hs (by simp)

/-! ### Sums and differences -/

theorem sum_within {x y : Word} {s : State} (h : (ocVal x + ocVal y).natAbs < 2 ^ 47) :
    sum x y s = (ocadd x y, s) := by
  have : addOverflows x y = false := by simpa [addOverflows] using h
  simp only [sum, this]
  rfl

theorem sum_outside {x y : Word} {s : State} (h : 2 ^ 47 ≤ (ocVal x + ocVal y).natAbs) :
    sum x y s = (Config.freeWord s.freeCount, (s.setFault 3).setFreeCount (s.freeCount + 1)) := by
  have : addOverflows x y = true := by simpa [addOverflows] using h
  simp only [sum, this]
  rfl

theorem difference_within {x y : Word} {s : State} (h : (ocVal x - ocVal y).natAbs < 2 ^ 47) :
    difference x y s = (ocsub x y, s) := by
  have : subOverflows x y = false := by simpa [subOverflows] using h
  simp only [difference, this]
  rfl

theorem difference_outside {x y : Word} {s : State} (h : 2 ^ 47 ≤ (ocVal x - ocVal y).natAbs) :
    difference x y s = (Config.freeWord s.freeCount, (s.setFault 3).setFreeCount (s.freeCount + 1)) := by
  have : subOverflows x y = true := by simpa [subOverflows] using h
  simp only [difference, this]
  rfl

/-! ### Channels -/

theorem channelOf_installed {x : ChanId} {s : State} (h : s.chanInstalled x = true) :
    channelOf (BitVec.ofNat 3 x.index) s = .ok x := by
  cases x <;> simp [channelOf, ChanId.ofDigit, ChanId.index, h]

theorem channelOf_absent {x : ChanId} {s : State} (h : s.chanInstalled x = false) :
    channelOf (BitVec.ofNat 3 x.index) s = .error (.refused .channelNotInstalled) := by
  cases x <;> simp [channelOf, ChanId.ofDigit, ChanId.index, h]

theorem channelOf_high {y : BitVec 3} {s : State} (h : 4 ≤ y.toNat) :
    channelOf y s = .error (.refused .channelNotInstalled) := by
  have h1 : y.toNat < 8 := y.isLt
  have h2 : y.toNat = 4 ∨ y.toNat = 5 ∨ y.toNat = 6 ∨ y.toNat = 7 := by omega
  rcases h2 with h2 | h2 | h2 | h2 <;> simp [channelOf, ChanId.ofDigit, h2]

theorem reject_eq {n : Addr} {s : State} :
    reject n s = if s.outOfBounds n = true then s.nextStep.setIntr (s.intr ||| bitWord 42)
      else ((s.setP n).setHalf .upper).setUHeld false := rfl

@[simp] theorem reject_inter (n : Addr) (s : State) : (reject n s).inter = s.inter := by
  rw [reject_eq]; split <;> rfl

/-! ### Entering a step -/

@[simp] theorem State.exitCheck_inter (s : State) : s.exitCheck.inter = s.inter := by
  simp only [State.exitCheck]
  split
  · rfl
  · split <;> rfl

@[simp] theorem State.entered_inter (s : State) (w : Word) : (s.entered w).inter = s.inter := by
  simp only [State.entered]
  split <;> simp

/-- All a step that is read can do: the channel events that fall before it executes, then the instruction of U. -/
theorem enterWith_cases {s t : State} {w : Word} (h : s.enterWith w = .next t) :
    ∃ u, reference (s.entered w) = .ok u ∧ executeU u = .next t := by
  simp only [State.enterWith] at h
  split at h
  · exact ⟨_, by assumption, h⟩
  · cases h
  · cases h

/-- With no channel event inside it, the step at P runs from the word there (spec/30_encoding.md R101). -/
theorem enterStep_ready {s : State} (h : s.inter = []) (hb : s.outOfBounds s.p = false)
    (hi : s.installed s.p = true) : enterStep s = executeU (s.entered (s.mem.readWord s.p)) := by
  simp [enterStep, hb, readMem_ready h hi, State.enterWith,
    reference_ready (s := s.entered (s.mem.readWord s.p)) (by simpa using h)]

end Sys2Proof.Machine
end

