-- ==== Sys2Proof/Laws/Loops.lean ====
section
/-! SUPPORT. What the two loops (search, scaling) deliver, the bits of the Interrupt register, and a word stored. -/

namespace Sys2Proof.Machine

/-- A word stored reads back, and every byte outside it reads as before. -/
theorem Memory.writeWord_spec {m : Memory} {a : Addr} {w : Word} (wf : m.wf = true) :
    (m.writeWord a w).readWord a = w ∧
      ∀ k, outsideWord a k → (m.writeWord a w).readByte k = m.readByte k := by
  refine ⟨Memory.readWord_writeWord _ _ _ wf, fun k hk => ?_⟩
  have h : ¬(byteKey a 0 ≤ k ∧ k ≤ byteKey a 5) := by
    simp only [outsideWord, byteKey] at *
    omega
  rw [Memory.readByte_writeWord _ _ _ _ wf, if_neg h]

theorem State.setIx_setIx (s : State) (r : Ix) (u v : Addr) : (s.setIx r u).setIx r v = s.setIx r v := by
  cases r <;> rfl

theorem State.setChan_setChan (s : State) (x : ChanId) (c d : Channel) : (s.setChan x c).setChan x d = s.setChan x d := by
  cases x <;> rfl

theorem State.setIx_ix (s : State) (r : Ix) : s.setIx r (s.ix r) = s := by
  cases r <;> rfl

/-- The counting loop of a search, from a count of n: it ends at the highest word that is a hit, or with the count
used up (R230). -/
theorem searchLoop_spec (hit : Word → Bool) (r : Ix) (a : Addr) (s : State) (hs : s.inter = []) (n : Nat)
    (hn : n < 32768) :
    (∀ j, j < n → (∀ k, j ≤ k → k < n → s.installed (ocadd a (BitVec.ofNat 15 k)) = true) →
        hit (s.mem.readWord (ocadd a (BitVec.ofNat 15 j))) = true →
        (∀ k, j < k → k < n → hit (s.mem.readWord (ocadd a (BitVec.ofNat 15 k))) = false) →
        searchLoop hit r a n (s.setIx r (BitVec.ofNat 15 n)) = .ok (true, s.setIx r (BitVec.ofNat 15 j))) ∧
      ((∀ k, k < n → s.installed (ocadd a (BitVec.ofNat 15 k)) = true ∧
          hit (s.mem.readWord (ocadd a (BitVec.ofNat 15 k))) = false) →
        searchLoop hit r a n (s.setIx r (BitVec.ofNat 15 n)) = .ok (false, s.setIx r 0)) := by
  induction n with
  | zero => exact ⟨by simp, fun _ => rfl⟩
  | succ n ih =>
    have e : ocsub (BitVec.ofNat 15 (n + 1)) 1 = BitVec.ofNat 15 n := by
      simp only [ocsub]
      rw [if_neg]
      · apply BitVec.eq_of_toNat_eq
        simp
        omega
      · simp
        omega
    obtain ⟨i1, i2⟩ := ih (by omega)
    have one : s.installed (ocadd a (BitVec.ofNat 15 n)) = true →
        searchLoop hit r a (n + 1) (s.setIx r (BitVec.ofNat 15 (n + 1))) =
          if hit (s.mem.readWord (ocadd a (BitVec.ofNat 15 n))) then .ok (true, s.setIx r (BitVec.ofNat 15 n))
          else searchLoop hit r a n (s.setIx r (BitVec.ofNat 15 n)) := by
      intro hi
      simp only [searchLoop, State.ix_setIx, e, State.setIx_setIx, State.modify]
      rw [readMem_ready (s := s.setIx r (BitVec.ofNat 15 n)) hs hi]
      rfl
    refine ⟨fun j hj hin hh hno => ?_, fun h => ?_⟩
    · rw [one (hin n (by omega) (by omega))]
      by_cases hjn : j = n
      · subst hjn
        rw [hh]
        rfl
      · rw [hno n (by omega) (by omega)]
        exact i1 j (by omega) (fun k h1 h2 => hin k h1 (by omega)) hh (fun k h1 h2 => hno k h1 (by omega))
    · rw [one (h n (by omega)).1, (h n (by omega)).2]
      exact i2 (fun k hk => h k (by omega))

/-- The scaling loop: k circular places, the first after which the two top bits differ, or all n (R211). -/
theorem scaleLoop_spec {w : Nat} (n : Nat) (x : BitVec w) :
    ∃ k, k ≤ n ∧ (scaleLoop n x).2 = n - k ∧ (scaleLoop n x).1 = Nat.iterate (fun y => y.rotateLeft 1) k x ∧
      (∀ j, j < k →
        (Nat.iterate (fun y => BitVec.rotateLeft y 1) j x).getLsbD (w - 1) =
          (Nat.iterate (fun y => BitVec.rotateLeft y 1) j x).getLsbD (w - 2)) ∧
      (k = n ∨
        (Nat.iterate (fun y => BitVec.rotateLeft y 1) k x).getLsbD (w - 1) ≠
          (Nat.iterate (fun y => BitVec.rotateLeft y 1) k x).getLsbD (w - 2)) := by
  induction n generalizing x with
  | zero => exact ⟨0, by simp, by simp [scaleLoop], by simp [scaleLoop], by simp, .inl rfl⟩
  | succ n ih =>
    by_cases h : x.getLsbD (w - 1) = x.getLsbD (w - 2)
    · obtain ⟨k, h1, h2, h3, h4, h5⟩ := ih (x.rotateLeft 1)
      refine ⟨k + 1, by omega, ?_, ?_, ?_, ?_⟩
      · simp only [scaleLoop, h, if_true, h2]
        omega
      · simp only [scaleLoop, h, if_true, h3]
        rfl
      · intro j hj
        cases j with
        | zero => exact h
        | succ j => exact h4 j (by omega)
      · rcases h5 with h5 | h5
        · left
          omega
        · right
          exact h5
    · exact ⟨0, by omega, by simp [scaleLoop, h], by simp [scaleLoop, h], by simp, .inr h⟩

/-- The bits of the external lines (R316). -/
theorem State.getLsbD_externalLines (s : State) (n : Nat) :
    s.externalLines.getLsbD n =
      ((decide (n = 30) && decide (s.intLines .c0 ≠ 0)) || (decide (n = 31) && decide (s.intLines .c1 ≠ 0)) ||
        (decide (n = 32) && decide (s.intLines .c2 ≠ 0)) || (decide (n = 33) && decide (s.intLines .c3 ≠ 0))) := by
  simp only [State.externalLines, List.foldl, ChanId.index]
  by_cases h0 : s.intLines .c0 = 0#8 <;> by_cases h1 : s.intLines .c1 = 0#8 <;>
    by_cases h2 : s.intLines .c2 = 0#8 <;> by_cases h3 : s.intLines .c3 = 0#8 <;>
    simp [h0, h1, h2, h3, getLsbD_bitWord]

/-- The bits of the Interrupt register (R372). -/
theorem State.getLsbD_interrupt (s : State) (n : Nat) :
    s.interrupt.getLsbD n = ((s.intr.getLsbD n && flipFlops.getLsbD n) || s.externalLines.getLsbD n) := by
  simp [State.interrupt]

end Sys2Proof.Machine
end

