-- ==== Sys2Proof/Laws/Channels.lean ====
section
/-! SUPPORT. What the operations of a channel give: its end, its clears, and one event of a mechanism. -/

namespace Sys2Proof.Machine

/-- A clear of a channel that no Auto Load reads on: its registers, its two Interrupt bits and its equipments
(spec/46_input_output.md R311, spec/70_reset_and_hazards.md R421). -/
theorem State.clearWith_eq (f : Device → Device) {s : State} {x : ChanId} (h : s.autoLoading ≠ some x) :
    s.clearWith f x =
      ((s.setChan x { s.chan x with active := false, conn := none, wc := 0, ca := 0 }).setIntr
        ((if (s.chan x).active = true then s.intr ||| bitWord (10 + x.index) else s.intr) &&&
          ~~~(bitWord (20 + x.index)))).setEquip
        (onChannel x (fun e => f e.device)
          (if (s.chan x).active = true then onChannel x (fun e => e.device.endTransfer (s.chan x).dir) s.equip
            else s.equip)) := by
  simp only [State.clearWith, State.channelHalt, State.autoStart]
  cases hh : (s.chan x).active
  · simp only [State.clearFault, Bool.false_eq_true, if_false]
    rfl
  · simp only [if_true]
    rw [if_neg]
    · simp only [State.clearFault, State.chan_setChan, State.setChan_setChan]
      rfl
    · exact h

/-- The bits of the Interrupt register after such a clear. -/
theorem clearWith_bit {w : Word} {x : ChanId} {active : Bool} {n : Nat} (hn : n < 48) :
    ((if active = true then w ||| bitWord (10 + x.index) else w) &&& ~~~(bitWord (20 + x.index))).getLsbD n =
      (n != 20 + x.index && (w.getLsbD n || (n == 10 + x.index && active))) := by
  have h1 := getLsbD_bitWord (10 + x.index) n (by cases x <;> decide)
  have h2 := getLsbD_bitWord (20 + x.index) n (by cases x <;> decide)
  cases active
  · rw [if_neg (by simp), BitVec.getLsbD_and, BitVec.getLsbD_not, h2]
    simp [hn, bne, Bool.and_comm, Bool.beq_eq_decide_eq]
  · rw [if_pos rfl, BitVec.getLsbD_and, BitVec.getLsbD_not, BitVec.getLsbD_or, h1, h2]
    simp [hn, bne, Bool.and_comm, Bool.beq_eq_decide_eq]

/-- A channel reads: it is active, and its direction is Read. -/
theorem State.reading_iff {s : State} {x : ChanId} :
    s.reading x = true ↔ (s.chan x).active = true ∧ (s.chan x).dir = .read := by
  simp [State.reading]

/-- All the End-of-Record switch can do at a channel: nothing, or the end of a Read. -/
theorem State.endOfRecordAt_cases (s : State) (x : ChanId) :
    s.endOfRecordAt x = s ∨ (s.reading x = true ∧ s.endOfRecordAt x = s.channelHalt x) := by
  simp only [State.endOfRecordAt]
  split
  · rename_i h
    exact .inr ⟨by simp only [Bool.and_eq_true] at h; exact h.1, rfl⟩
  · exact .inl rfl

/-- It does nothing at a channel that does not read. -/
theorem State.endOfRecordAt_idle {s : State} {x : ChanId} (h : s.reading x = false) : s.endOfRecordAt x = s := by
  simp [State.endOfRecordAt, h]

/-- What the movement of mechanisms changes: the equipments and nothing else. -/
theorem State.moved_eq (s : State) (x : ChanId) (f : Device → Supply × Device) :
    s.moved x f = s.setEquip (onChannel x (fun e => (f e.device).2) s.equip) := rfl

/-- A mechanism's event on a channel that does not read. -/
theorem State.supply_idle {s : State} {x : ChanId} {f : Device → Supply × Device} (h : s.reading x = false) :
    s.supply x f = .ok (s.moved x f) := by
  simp [State.supply, h]

/-- On a channel that reads: the end at a zero count, before the mechanisms move, else nothing more, a word stored, or the
end. -/
theorem State.supply_reading {s : State} {x : ChanId} {f : Device → Supply × Device} (h : s.reading x = true) :
    s.supply x f =
      if (s.chan x).wc = 0 then .ok ((s.channelHalt x).moved x f)
      else
        match supplied x f s.equip with
        | .none => .ok (s.moved x f)
        | .word w => (s.moved x f).channelStore x w
        | .endOfRecord => .ok ((s.moved x f).channelHalt x) :=
  if_pos h

/-- An event of a channel that is not installed does nothing (spec/93_implementation_defined.md U6). -/
theorem channelEvent_absent {e : ChannelEvent} {s : State} (h : s.chanInstalled e.chan = false) :
    channelEvent e s = .ok s := by
  simp [channelEvent, h]

theorem channelEvent_installed {e : ChannelEvent} {s : State} (h : s.chanInstalled e.chan = true) :
    channelEvent e s = installedEvent e s := by
  simp [channelEvent, h]

/-- All a change of a mechanism can do: the equipment's new state, and the end of a Read where a coupler's other
division dropped its Write (spec/48_external_equipment.md R365). -/
theorem State.equipmentEvent_cases (s : State) (x : ChanId) (n : BitVec 3) (k : Option Nat) (d : Device) :
    let t := s.setEquip (replaceEquipment x n k d s.equip)
    s.equipmentEvent x n k d = t ∨ (s.reading x = true ∧ s.equipmentEvent x n k d = t.channelHalt x) := by
  simp only [State.equipmentEvent]
  split
  · rename_i h
    exact .inr ⟨by simp only [Bool.and_eq_true] at h; exact h.2, rfl⟩
  · exact .inl rfl

/-- A tape unit after a change of its mechanism: no event drops File Mark or changes the density, and none moves the Load
Point or End of Tape lines of a unit that is ready and idle (spec/48_external_equipment.md R361). -/
theorem TapeUnit.after_keeps {twin : Twin} {hold : Option (BitVec 6)} {o n : TapeUnit} :
    (o.fileMark = true → (o.after twin hold n).fileMark = true) ∧ (o.after twin hold n).density = o.density ∧
    (o.busy = false → (o.after twin hold n).fileMark = o.fileMark) ∧
    (o.busy = false → o.ready = true → n.ready = true →
      (o.after twin hold n).loadPoint = o.loadPoint ∧ (o.after twin hold n).endOfTape = o.endOfTape) := by
  refine ⟨?_, rfl, ?_, ?_⟩
  · intro h; simp [TapeUnit.after, h]
  · intro h; simp [TapeUnit.after, h]
  · intro h hr hn; simp [TapeUnit.after, h, hr, hn]

/-! ### The equipments of a channel -/

/-- With no equipment nothing answers and nothing changes. -/
@[simp] theorem sweep_nil (f : Attached → Option (Reply × Device)) (n : Nat) : sweep f n [] = (.silent, []) := by
  induction n with
  | zero => rfl
  | succ n ih => simp [sweep, ih]

@[simp] theorem onChannel_nil (x : ChanId) (f : Attached → Device) : onChannel x f [] = [] := rfl

/-- The channel and number of every control stay as they are. -/
theorem putDevice_places (e : Attached) (d : Device) (i : Nat) (es : List Attached) :
    (putDevice e d i es).map (fun g => (g.channel, g.number, g.shared)) =
      es.map (fun g => (g.channel, g.number, g.shared)) := by
  induction es generalizing i with
  | nil => cases i <;> rfl
  | cons f fs ih =>
    cases i with
    | zero =>
      simp only [putDevice, List.map_cons, List.map_map]
      congr 1
      apply List.map_congr_left
      intro g _
      simp only [Function.comp]
      split <;> rfl
    | succ i =>
      simp only [putDevice, List.map_cons, ih]
      congr 1
      split <;> rfl

theorem sweep_places (f : Attached → Option (Reply × Device)) (n : Nat) (es : List Attached) :
    (sweep f n es).2.map (fun g => (g.channel, g.number, g.shared)) =
      es.map (fun g => (g.channel, g.number, g.shared)) := by
  induction n with
  | zero => rfl
  | succ n ih =>
    simp only [sweep]
    split
    · exact ih
    · split
      · exact ih
      · rw [putDevice_places]
        exact ih

/-- A change of the equipments of a channel recables none. -/
theorem onChannel_places (x : ChanId) (f : Attached → Device) (es : List Attached) :
    (onChannel x f es).map (fun g => (g.channel, g.number, g.shared)) =
      es.map (fun g => (g.channel, g.number, g.shared)) :=
  sweep_places _ _ _

end Sys2Proof.Machine
end

