-- ==== Sys2Proof/Laws/Encoding.lean ====
section
/-! SUPPORT. The fields of each instruction format, read back from the bits the encoder writes. -/

namespace Sys2Proof

theorem field_append_hi {n m : Nat} (x : BitVec n) (y : BitVec m) (lo len : Nat) (h : m ≤ lo) :
    field (x ++ y) lo len = field x (lo - m) len := by
  apply BitVec.eq_of_getLsbD_eq
  intro i hi
  simp only [field, BitVec.getLsbD_extractLsb', BitVec.getLsbD_append]
  rw [if_neg (by omega)]
  congr 2; omega

theorem field_append_lo {n m : Nat} (x : BitVec n) (y : BitVec m) (lo len : Nat) (h : lo + len ≤ m) :
    field (x ++ y) lo len = field y lo len := by
  apply BitVec.eq_of_getLsbD_eq
  intro i hi
  simp only [field, BitVec.getLsbD_extractLsb', BitVec.getLsbD_append]
  rw [if_pos (by omega)]

theorem field_all {n : Nat} (x : BitVec n) : field x 0 n = x := by
  simp [field]

theorem field_zero {n : Nat} (lo len : Nat) : field (0#n) lo len = 0#len := by
  apply BitVec.eq_of_getLsbD_eq
  intro i hi
  simp [field]

@[simp] theorem Desig.ofBits_bits (b : Desig) : Desig.ofBits b.bits = b := by
  cases b with
  | ix r => cases r <;> rfl
  | zero => rfl
  | seven => rfl

@[simp] theorem RegCond.ofBits_bits (j : RegCond) : RegCond.ofBits j.bits = j := by
  cases j <;> rfl

@[simp] theorem SwCond.ofBits_bits (j : SwCond) : SwCond.ofBits j.bits = j := by
  cases j <;> rfl

section Formats
variable (f6 : BitVec 6) (f9 : BitVec 9) (f21 : BitVec 21) (b v : BitVec 3) (m n y : Addr) (x t : BitVec 3)
  (r : BitVec 1) (j : BitVec 2) (y8 : BitVec 8) (c : BitVec 12)

@[simp] theorem class1Bits_code : field (class1Bits f6 b m) 18 6 = f6 :=
  (field_append_hi (n := 9) (f6 ++ b) m 18 6 (by omega)).trans
    ((field_append_hi (n := 6) f6 b 3 6 (by omega)).trans
    (field_all f6))
@[simp] theorem class1Bits_b : field (class1Bits f6 b m) 15 3 = b :=
  (field_append_hi (n := 9) (f6 ++ b) m 15 3 (by omega)).trans
    ((field_append_lo (n := 6) f6 b 0 3 (by omega)).trans
    (field_all b))
@[simp] theorem class1Bits_m : field (class1Bits f6 b m) 0 15 = m :=
  (field_append_lo (n := 9) (f6 ++ b) m 0 15 (by omega)).trans
    (field_all m)

@[simp] theorem classJBits_code : field (classJBits f6 r j m) 18 6 = f6 :=
  (field_append_hi (n := 9) (f6 ++ r ++ j) m 18 6 (by omega)).trans
    ((field_append_hi (n := 7) (f6 ++ r) j 3 6 (by omega)).trans
    ((field_append_hi (n := 6) f6 r 1 6 (by omega)).trans
    (field_all f6)))
@[simp] theorem classJBits_ret : field (classJBits f6 r j m) 17 1 = r :=
  (field_append_hi (n := 9) (f6 ++ r ++ j) m 17 1 (by omega)).trans
    ((field_append_hi (n := 7) (f6 ++ r) j 2 1 (by omega)).trans
    ((field_append_lo (n := 6) f6 r 0 1 (by omega)).trans
    (field_all r)))
@[simp] theorem classJBits_j : field (classJBits f6 r j m) 15 2 = j :=
  (field_append_hi (n := 9) (f6 ++ r ++ j) m 15 2 (by omega)).trans
    ((field_append_lo (n := 7) (f6 ++ r) j 0 2 (by omega)).trans
    (field_all j))
@[simp] theorem classJBits_m : field (classJBits f6 r j m) 0 15 = m :=
  (field_append_lo (n := 9) (f6 ++ r ++ j) m 0 15 (by omega)).trans
    (field_all m)

@[simp] theorem class2Bits_code : field (class2Bits f9 y) 18 6 = field f9 3 6 :=
  field_append_hi (n := 9) f9 y 18 6 (by omega)
@[simp] theorem class2Bits_sub : field (class2Bits f9 y) 15 3 = field f9 0 3 :=
  field_append_hi (n := 9) f9 y 15 3 (by omega)
@[simp] theorem class2Bits_y : field (class2Bits f9 y) 0 15 = y :=
  (field_append_lo (n := 9) f9 y 0 15 (by omega)).trans
    (field_all y)

@[simp] theorem classBoundBits_code : field (classBoundBits f9 y8) 18 6 = field f9 3 6 :=
  (field_append_hi (n := 17) (f9 ++ y8) 0#7 18 6 (by omega)).trans
    (field_append_hi (n := 9) f9 y8 11 6 (by omega))
@[simp] theorem classBoundBits_sub : field (classBoundBits f9 y8) 15 3 = field f9 0 3 :=
  (field_append_hi (n := 17) (f9 ++ y8) 0#7 15 3 (by omega)).trans
    (field_append_hi (n := 9) f9 y8 8 3 (by omega))
@[simp] theorem classBoundBits_y : field (classBoundBits f9 y8) 7 8 = y8 :=
  (field_append_hi (n := 17) (f9 ++ y8) 0#7 7 8 (by omega)).trans
    ((field_append_lo (n := 9) f9 y8 0 8 (by omega)).trans
    (field_all y8))
@[simp] theorem classBoundBits_zeros : field (classBoundBits f9 y8) 0 7 = 0#7 :=
  (field_append_lo (n := 17) (f9 ++ y8) 0#7 0 7 (by omega)).trans
    (field_all 0#7)

@[simp] theorem classAugBits_code : field (classAugBits f9 v t) 18 6 = field f9 3 6 :=
  (field_append_hi (n := 21) (f9 ++ v ++ 0#9) t 18 6 (by omega)).trans
    ((field_append_hi (n := 12) (f9 ++ v) 0#9 15 6 (by omega)).trans
    (field_append_hi (n := 9) f9 v 6 6 (by omega)))
@[simp] theorem classAugBits_sub : field (classAugBits f9 v t) 15 3 = field f9 0 3 :=
  (field_append_hi (n := 21) (f9 ++ v ++ 0#9) t 15 3 (by omega)).trans
    ((field_append_hi (n := 12) (f9 ++ v) 0#9 12 3 (by omega)).trans
    (field_append_hi (n := 9) f9 v 3 3 (by omega)))
@[simp] theorem classAugBits_v : field (classAugBits f9 v t) 12 3 = v :=
  (field_append_hi (n := 21) (f9 ++ v ++ 0#9) t 12 3 (by omega)).trans
    ((field_append_hi (n := 12) (f9 ++ v) 0#9 9 3 (by omega)).trans
    ((field_append_lo (n := 9) f9 v 0 3 (by omega)).trans
    (field_all v)))
@[simp] theorem classAugBits_zeros : field (classAugBits f9 v t) 3 9 = 0#9 :=
  (field_append_hi (n := 21) (f9 ++ v ++ 0#9) t 3 9 (by omega)).trans
    ((field_append_lo (n := 12) (f9 ++ v) 0#9 0 9 (by omega)).trans
    (field_all 0#9))
@[simp] theorem classAugBits_t : field (classAugBits f9 v t) 0 3 = t :=
  (field_append_lo (n := 21) (f9 ++ v ++ 0#9) t 0 3 (by omega)).trans
    (field_all t)

@[simp] theorem classAtiBits_code : field (classAtiBits f21 b) 18 6 = field f21 15 6 :=
  field_append_hi (n := 21) f21 b 18 6 (by omega)
@[simp] theorem classAtiBits_const : field (classAtiBits f21 b) 3 21 = f21 :=
  (field_append_hi (n := 21) f21 b 3 21 (by omega)).trans
    (field_all f21)
@[simp] theorem classAtiBits_b : field (classAtiBits f21 b) 0 3 = b :=
  (field_append_lo (n := 21) f21 b 0 3 (by omega)).trans
    (field_all b)

@[simp] theorem class3cBits_code : field (class3cBits f9 n x c) 42 6 = field f9 3 6 :=
  (field_append_hi (n := 36) (f9 ++ n ++ 0#3 ++ x ++ 0#6) c 42 6 (by omega)).trans
    ((field_append_hi (n := 30) (f9 ++ n ++ 0#3 ++ x) 0#6 30 6 (by omega)).trans
    ((field_append_hi (n := 27) (f9 ++ n ++ 0#3) x 24 6 (by omega)).trans
    ((field_append_hi (n := 24) (f9 ++ n) 0#3 21 6 (by omega)).trans
    (field_append_hi (n := 9) f9 n 18 6 (by omega)))))
@[simp] theorem class3cBits_sub : field (class3cBits f9 n x c) 39 3 = field f9 0 3 :=
  (field_append_hi (n := 36) (f9 ++ n ++ 0#3 ++ x ++ 0#6) c 39 3 (by omega)).trans
    ((field_append_hi (n := 30) (f9 ++ n ++ 0#3 ++ x) 0#6 27 3 (by omega)).trans
    ((field_append_hi (n := 27) (f9 ++ n ++ 0#3) x 21 3 (by omega)).trans
    ((field_append_hi (n := 24) (f9 ++ n) 0#3 18 3 (by omega)).trans
    (field_append_hi (n := 9) f9 n 15 3 (by omega)))))
@[simp] theorem class3cBits_n : field (class3cBits f9 n x c) 24 15 = n :=
  (field_append_hi (n := 36) (f9 ++ n ++ 0#3 ++ x ++ 0#6) c 24 15 (by omega)).trans
    ((field_append_hi (n := 30) (f9 ++ n ++ 0#3 ++ x) 0#6 12 15 (by omega)).trans
    ((field_append_hi (n := 27) (f9 ++ n ++ 0#3) x 6 15 (by omega)).trans
    ((field_append_hi (n := 24) (f9 ++ n) 0#3 3 15 (by omega)).trans
    ((field_append_lo (n := 9) f9 n 0 15 (by omega)).trans
    (field_all n)))))
@[simp] theorem class3cBits_z1 : field (class3cBits f9 n x c) 21 3 = 0#3 :=
  (field_append_hi (n := 36) (f9 ++ n ++ 0#3 ++ x ++ 0#6) c 21 3 (by omega)).trans
    ((field_append_hi (n := 30) (f9 ++ n ++ 0#3 ++ x) 0#6 9 3 (by omega)).trans
    ((field_append_hi (n := 27) (f9 ++ n ++ 0#3) x 3 3 (by omega)).trans
    ((field_append_lo (n := 24) (f9 ++ n) 0#3 0 3 (by omega)).trans
    (field_all 0#3))))
@[simp] theorem class3cBits_x : field (class3cBits f9 n x c) 18 3 = x :=
  (field_append_hi (n := 36) (f9 ++ n ++ 0#3 ++ x ++ 0#6) c 18 3 (by omega)).trans
    ((field_append_hi (n := 30) (f9 ++ n ++ 0#3 ++ x) 0#6 6 3 (by omega)).trans
    ((field_append_lo (n := 27) (f9 ++ n ++ 0#3) x 0 3 (by omega)).trans
    (field_all x)))
@[simp] theorem class3cBits_z2 : field (class3cBits f9 n x c) 12 6 = 0#6 :=
  (field_append_hi (n := 36) (f9 ++ n ++ 0#3 ++ x ++ 0#6) c 12 6 (by omega)).trans
    ((field_append_lo (n := 30) (f9 ++ n ++ 0#3 ++ x) 0#6 0 6 (by omega)).trans
    (field_all 0#6))
@[simp] theorem class3cBits_c : field (class3cBits f9 n x c) 0 12 = c :=
  (field_append_lo (n := 36) (f9 ++ n ++ 0#3 ++ x ++ 0#6) c 0 12 (by omega)).trans
    (field_all c)

@[simp] theorem class3mBits_code : field (class3mBits f9 n x m) 42 6 = field f9 3 6 :=
  (field_append_hi (n := 33) (f9 ++ n ++ 0#3 ++ x ++ 0#3) m 42 6 (by omega)).trans
    ((field_append_hi (n := 30) (f9 ++ n ++ 0#3 ++ x) 0#3 27 6 (by omega)).trans
    ((field_append_hi (n := 27) (f9 ++ n ++ 0#3) x 24 6 (by omega)).trans
    ((field_append_hi (n := 24) (f9 ++ n) 0#3 21 6 (by omega)).trans
    (field_append_hi (n := 9) f9 n 18 6 (by omega)))))
@[simp] theorem class3mBits_sub : field (class3mBits f9 n x m) 39 3 = field f9 0 3 :=
  (field_append_hi (n := 33) (f9 ++ n ++ 0#3 ++ x ++ 0#3) m 39 3 (by omega)).trans
    ((field_append_hi (n := 30) (f9 ++ n ++ 0#3 ++ x) 0#3 24 3 (by omega)).trans
    ((field_append_hi (n := 27) (f9 ++ n ++ 0#3) x 21 3 (by omega)).trans
    ((field_append_hi (n := 24) (f9 ++ n) 0#3 18 3 (by omega)).trans
    (field_append_hi (n := 9) f9 n 15 3 (by omega)))))
@[simp] theorem class3mBits_n : field (class3mBits f9 n x m) 24 15 = n :=
  (field_append_hi (n := 33) (f9 ++ n ++ 0#3 ++ x ++ 0#3) m 24 15 (by omega)).trans
    ((field_append_hi (n := 30) (f9 ++ n ++ 0#3 ++ x) 0#3 9 15 (by omega)).trans
    ((field_append_hi (n := 27) (f9 ++ n ++ 0#3) x 6 15 (by omega)).trans
    ((field_append_hi (n := 24) (f9 ++ n) 0#3 3 15 (by omega)).trans
    ((field_append_lo (n := 9) f9 n 0 15 (by omega)).trans
    (field_all n)))))
@[simp] theorem class3mBits_z1 : field (class3mBits f9 n x m) 21 3 = 0#3 :=
  (field_append_hi (n := 33) (f9 ++ n ++ 0#3 ++ x ++ 0#3) m 21 3 (by omega)).trans
    ((field_append_hi (n := 30) (f9 ++ n ++ 0#3 ++ x) 0#3 6 3 (by omega)).trans
    ((field_append_hi (n := 27) (f9 ++ n ++ 0#3) x 3 3 (by omega)).trans
    ((field_append_lo (n := 24) (f9 ++ n) 0#3 0 3 (by omega)).trans
    (field_all 0#3))))
@[simp] theorem class3mBits_x : field (class3mBits f9 n x m) 18 3 = x :=
  (field_append_hi (n := 33) (f9 ++ n ++ 0#3 ++ x ++ 0#3) m 18 3 (by omega)).trans
    ((field_append_hi (n := 30) (f9 ++ n ++ 0#3 ++ x) 0#3 3 3 (by omega)).trans
    ((field_append_lo (n := 27) (f9 ++ n ++ 0#3) x 0 3 (by omega)).trans
    (field_all x)))
@[simp] theorem class3mBits_z2 : field (class3mBits f9 n x m) 15 3 = 0#3 :=
  (field_append_hi (n := 33) (f9 ++ n ++ 0#3 ++ x ++ 0#3) m 15 3 (by omega)).trans
    ((field_append_lo (n := 30) (f9 ++ n ++ 0#3 ++ x) 0#3 0 3 (by omega)).trans
    (field_all 0#3))
@[simp] theorem class3mBits_m : field (class3mBits f9 n x m) 0 15 = m :=
  (field_append_lo (n := 33) (f9 ++ n ++ 0#3 ++ x ++ 0#3) m 0 15 (by omega)).trans
    (field_all m)

@[simp] theorem class3xBits_code : field (class3xBits f9 x) 42 6 = field f9 3 6 :=
  (field_append_hi (n := 30) (f9 ++ 0#18 ++ x) 0#18 42 6 (by omega)).trans
    ((field_append_hi (n := 27) (f9 ++ 0#18) x 24 6 (by omega)).trans
    (field_append_hi (n := 9) f9 0#18 21 6 (by omega)))
@[simp] theorem class3xBits_sub : field (class3xBits f9 x) 39 3 = field f9 0 3 :=
  (field_append_hi (n := 30) (f9 ++ 0#18 ++ x) 0#18 39 3 (by omega)).trans
    ((field_append_hi (n := 27) (f9 ++ 0#18) x 21 3 (by omega)).trans
    (field_append_hi (n := 9) f9 0#18 18 3 (by omega)))
@[simp] theorem class3xBits_z1 : field (class3xBits f9 x) 21 18 = 0#18 :=
  (field_append_hi (n := 30) (f9 ++ 0#18 ++ x) 0#18 21 18 (by omega)).trans
    ((field_append_hi (n := 27) (f9 ++ 0#18) x 3 18 (by omega)).trans
    ((field_append_lo (n := 9) f9 0#18 0 18 (by omega)).trans
    (field_all 0#18)))
@[simp] theorem class3xBits_x : field (class3xBits f9 x) 18 3 = x :=
  (field_append_hi (n := 30) (f9 ++ 0#18 ++ x) 0#18 18 3 (by omega)).trans
    ((field_append_lo (n := 27) (f9 ++ 0#18) x 0 3 (by omega)).trans
    (field_all x))
@[simp] theorem class3xBits_z2 : field (class3xBits f9 x) 0 18 = 0#18 :=
  (field_append_lo (n := 30) (f9 ++ 0#18 ++ x) 0#18 0 18 (by omega)).trans
    (field_all 0#18)

@[simp] theorem classCharBits_code : field (classCharBits f6 b v f21 m) 42 6 = f6 :=
  (field_append_hi (n := 33) (f6 ++ b ++ v ++ f21) m 42 6 (by omega)).trans
    ((field_append_hi (n := 12) (f6 ++ b ++ v) f21 27 6 (by omega)).trans
    ((field_append_hi (n := 9) (f6 ++ b) v 6 6 (by omega)).trans
    ((field_append_hi (n := 6) f6 b 3 6 (by omega)).trans
    (field_all f6))))
@[simp] theorem classCharBits_b : field (classCharBits f6 b v f21 m) 39 3 = b :=
  (field_append_hi (n := 33) (f6 ++ b ++ v ++ f21) m 39 3 (by omega)).trans
    ((field_append_hi (n := 12) (f6 ++ b ++ v) f21 24 3 (by omega)).trans
    ((field_append_hi (n := 9) (f6 ++ b) v 3 3 (by omega)).trans
    ((field_append_lo (n := 6) f6 b 0 3 (by omega)).trans
    (field_all b))))
@[simp] theorem classCharBits_v : field (classCharBits f6 b v f21 m) 36 3 = v :=
  (field_append_hi (n := 33) (f6 ++ b ++ v ++ f21) m 36 3 (by omega)).trans
    ((field_append_hi (n := 12) (f6 ++ b ++ v) f21 21 3 (by omega)).trans
    ((field_append_lo (n := 9) (f6 ++ b) v 0 3 (by omega)).trans
    (field_all v)))
@[simp] theorem classCharBits_const : field (classCharBits f6 b v f21 m) 15 21 = f21 :=
  (field_append_hi (n := 33) (f6 ++ b ++ v ++ f21) m 15 21 (by omega)).trans
    ((field_append_lo (n := 12) (f6 ++ b ++ v) f21 0 21 (by omega)).trans
    (field_all f21))
@[simp] theorem classCharBits_m : field (classCharBits f6 b v f21 m) 0 15 = m :=
  (field_append_lo (n := 33) (f6 ++ b ++ v ++ f21) m 0 15 (by omega)).trans
    (field_all m)

@[simp] theorem augBits_t2 (t2 t1 t0 : Bool) : augT2 (augBits t2 t1 t0) = t2 := by
  cases t2 <;> cases t1 <;> cases t0 <;> rfl
@[simp] theorem augBits_t1 (t2 t1 t0 : Bool) : augT1 (augBits t2 t1 t0) = t1 := by
  cases t2 <;> cases t1 <;> cases t0 <;> rfl
@[simp] theorem augBits_t0 (t2 t1 t0 : Bool) : augT0 (augBits t2 t1 t0) = t0 := by
  cases t2 <;> cases t1 <;> cases t0 <;> rfl

end Formats

end Sys2Proof
end

