-- ==== Sys2Proof/Laws/Exits.lean ====
section
/-! SUPPORT. What an interrupt exit point does to the end of an instruction, and that no operation of an instruction
but its end reads the exit flip-flops: an operation that goes on with other flip-flops goes on with these. -/

namespace Sys2Proof.Machine

/-- An operation that does not stop. -/
def Goes {α : Type} (r : Res α) : Prop := ∃ t, r = .ok t

theorem goes_ok {α : Type} (t : α) : Goes (.ok t : Res α) := ⟨t, rfl⟩

theorem not_goes_error {α : Type} (e : Stop) : ¬Goes (.error e : Res α) := by
  rintro ⟨t, h⟩; cases h

/-! ### The end of an instruction at an exit point -/

/-- Everything but the normal jumps is refused at an exit point (R379). -/
theorem finish_exit {s : State} {r : Res State} (hs : s.atExit = true) (hr : Goes r) :
    finish s r = .refused .exitNotJump := by
  obtain ⟨t, rfl⟩ := hr
  simp [finish, hs, Res.outcome]

theorem finishSeq_exit {s : State} {r : Res State} (hs : s.atExit = true) (hr : Goes r) :
    finishSeq s r = .refused .exitNotJump := by
  obtain ⟨t, rfl⟩ := hr
  exact finish_exit hs (goes_ok _)

/-- A jump that is not taken is refused at an exit point. -/
theorem finishJump_untaken {s t : State} (hs : s.atExit = true) :
    finishJump s false (.ok t) = .refused .exitNotJump := by
  simp [finishJump, hs, Res.outcome]

/-- A taken one lands (R379, R381). -/
theorem finishJump_lands {s t : State} (hs : s.atExit = true) (ht : t.inter = []) :
    finishJump s true (.ok t) = .next (s.completed t.exitLand) := by
  have h : t.exitLand.inter = [] := ht
  simp [finishJump, hs, complete_ready h, Res.outcome]

theorem finish_goes {s t : State} {r : Res State} (h : finish s r = .next t) : Goes r := by
  obtain ⟨u, rfl, -⟩ := finish_cases h
  exact goes_ok _

theorem finishSeq_goes {s t : State} {r : Res State} (h : finishSeq s r = .next t) : Goes r := by
  obtain ⟨u, rfl, -⟩ := finishSeq_cases h
  exact goes_ok _

/-! ### Operations with other flip-flops -/

theorem goes_readMem {a : Addr} {s : State} (h : s.inter = []) : Goes (readMem a s) ↔ s.installed a = true := by
  constructor
  · rintro ⟨⟨w, t⟩, hr⟩
    exact (readMem_quiet h hr).2.2
  · intro hi
    exact ⟨_, readMem_ready h hi⟩

theorem goes_modifyMem {a : Addr} {f : Word → Word} {s : State} (h : s.inter = []) :
    Goes (modifyMem a f s) ↔ s.outOfBounds a = true ∨ s.installed a = true := by
  constructor
  · rintro ⟨t, ht⟩
    rcases modifyMem_cases ht with ⟨ho, -⟩ | ⟨-, u, hu, hi, -⟩
    · exact .inl ho
    · rw [reference_ready h] at hu
      cases hu
      exact .inr hi
  · intro hc
    cases ho : s.outOfBounds a with
    | true => exact ⟨_, modifyMem_outOfBounds ho⟩
    | false => exact ⟨_, modifyMem_ready h ho (hc.resolve_left (by simp [ho]))⟩

/-- Indirect addressing reads no flip-flop of the interrupt system. -/
theorem resolveIn_setCtl (n : Nat) (b : Desig) (m : Addr) (s t : State) (c : IntCtl) (x : Option Ix × Addr)
    (h : s.inter = []) (hr : resolveIn n b m (s.setCtl c) = .ok (x, t)) : resolveIn n b m s = .ok (x, s) := by
  induction n generalizing b m with
  | zero =>
    cases b with
    | zero => simp only [resolveIn] at hr ⊢; cases hr; rfl
    | ix r => simp only [resolveIn] at hr ⊢; cases hr; rfl
    | seven => simp only [resolveIn] at hr; cases hr
  | succ n ih =>
    cases b with
    | zero => simp only [resolveIn] at hr ⊢; cases hr; rfl
    | ix r => simp only [resolveIn] at hr ⊢; cases hr; rfl
    | seven =>
      have hc : (s.setCtl c).inter = [] := h
      by_cases hi : s.installed m = true
      · have hic : (s.setCtl c).installed m = true := hi
        rw [resolveIn_seven hc hic] at hr
        rw [resolveIn_seven h hi]
        exact ih _ _ hr
      · simp only [resolveIn] at hr
        split at hr
        · rename_i hw
          exact absurd (readMem_quiet hc hw).2.2 hi
        · cases hr

theorem resolve_setCtl {b : Desig} {m : Addr} {s t : State} {c : IntCtl} {x : Option Ix × Addr} (h : s.inter = [])
    (hr : resolve b m (s.setCtl c) = .ok (x, t)) : t = s.setCtl c ∧ resolve b m s = .ok (x, s) :=
  ⟨resolve_quiet (s := s.setCtl c) h hr, resolveIn_setCtl _ b m s t c x h hr⟩

theorem effective_setCtl {b : Desig} {m a : Addr} {s t : State} {c : IntCtl} (h : s.inter = [])
    (hr : effective b m (s.setCtl c) = .ok (a, t)) : t = s.setCtl c ∧ effective b m s = .ok (a, s) := by
  simp only [effective] at hr
  split at hr
  · rename_i r n u hu
    obtain ⟨rfl, hv⟩ := resolve_setCtl h hu
    cases hr
    refine ⟨rfl, ?_⟩
    simp only [effective, hv]
    cases r <;> rfl
  · cases hr

theorem goes_onEffective {b : Desig} {m : Addr} {s : State} {c : IntCtl} {f : Addr → State → Res State}
    (h : s.inter = []) (hf : ∀ a, Goes (f a (s.setCtl c)) → Goes (f a s))
    (hg : Goes (onEffective b m f (s.setCtl c))) : Goes (onEffective b m f s) := by
  obtain ⟨t, ht⟩ := hg
  simp only [onEffective] at ht
  split at ht
  · rename_i a u hu
    obtain ⟨rfl, hv⟩ := effective_setCtl h hu
    obtain ⟨v, hv2⟩ := hf a ⟨t, ht⟩
    exact ⟨v, by simp only [onEffective, hv, hv2]⟩
  · cases ht

theorem goes_onResolved {b : Desig} {m : Addr} {s : State} {c : IntCtl} {f : Option Ix → Addr → State → Res State}
    (h : s.inter = []) (hf : ∀ r a, Goes (f r a (s.setCtl c)) → Goes (f r a s))
    (hg : Goes (onResolved b m f (s.setCtl c))) : Goes (onResolved b m f s) := by
  obtain ⟨t, ht⟩ := hg
  simp only [onResolved] at ht
  split at ht
  · rename_i r a u hu
    obtain ⟨rfl, hv⟩ := resolve_setCtl h hu
    obtain ⟨v, hv2⟩ := hf r a ⟨t, ht⟩
    exact ⟨v, by simp only [onResolved, hv, hv2]⟩
  · cases ht

theorem goes_onOperand {b : Desig} {m : Addr} {s : State} {c : IntCtl} {f : Word → State → State}
    (h : s.inter = []) (hg : Goes (onOperand b m f (s.setCtl c))) : Goes (onOperand b m f s) := by
  obtain ⟨t, ht⟩ := hg
  simp only [onOperand, operand] at ht
  cases he : effective b m (s.setCtl c) with
  | error e => rw [he] at ht; cases ht
  | ok p =>
    obtain ⟨a, u⟩ := p
    rw [he] at ht
    obtain ⟨rfl, hv⟩ := effective_setCtl h he
    simp only at ht
    split at ht
    · rename_i hw
      have hi : s.installed a = true := (readMem_quiet (s := s.setCtl c) h hw).2.2
      exact ⟨_, by simp only [onOperand, operand, hv, readMem_ready h hi]; rfl⟩
    · cases ht

/-- A store goes on with these flip-flops where it does with others that give the same bounds check. -/
theorem goes_modifyMem_setCtl {a : Addr} {f g : Word → Word} {s : State} {c : IntCtl} (h : s.inter = [])
    (ho : (s.setCtl c).outOfBounds a = s.outOfBounds a) (hg : Goes (modifyMem a f (s.setCtl c))) :
    Goes (modifyMem a g s) := by
  have h1 := (goes_modifyMem (s := s.setCtl c) h).mp hg
  rw [ho] at h1
  exact (goes_modifyMem h).mpr h1

/-- The bounds check reads no flip-flop of the exits. -/
theorem outOfBounds_exiting (s : State) (b : Bool) (a : Addr) :
    (s.setCtl { s.ctl with exiting := b }).outOfBounds a = s.outOfBounds a := rfl

/-! ### Searches, replacements and return jumps with other flip-flops -/

/-- A read, then something that goes on. -/
theorem goes_readThen {α : Type} {a : Addr} {s : State} {c : IntCtl} {k : Word → State → Res α} (h : s.inter = [])
    (hk : ∀ x, Goes (k x (s.setCtl c)) → Goes (k x s))
    (hg : Goes (match readMem a (s.setCtl c) with | .ok (w, v) => k w v | .error e => .error e)) :
    Goes (match readMem a s with | .ok (w, v) => k w v | .error e => .error e) := by
  obtain ⟨t, ht⟩ := hg
  split at ht
  · rename_i x u hu
    obtain ⟨rfl, rfl, hin⟩ := readMem_quiet (s := s.setCtl c) h hu
    have hin' : s.installed a = true := hin
    simp only [readMem_ready h hin']
    exact hk _ ⟨t, ht⟩
  · cases ht

theorem goes_searchLoop {hit : Word → Bool} {r : Ix} {a : Addr} {n : Nat} {s : State} {c : IntCtl} (h : s.inter = [])
    (hg : Goes (searchLoop hit r a n (s.setCtl c))) : Goes (searchLoop hit r a n s) := by
  induction n generalizing s with
  | zero => exact goes_ok _
  | succ n ih =>
    obtain ⟨t, ht⟩ := hg
    simp only [searchLoop] at ht ⊢
    split at ht
    · rename_i x u hu
      obtain ⟨rfl, rfl, hin⟩ := readMem_quiet (s := (s.setCtl c).setIx r (ocsub ((s.setCtl c).ix r) 1)) h hu
      have hin' : (s.setIx r (ocsub (s.ix r) 1)).installed
          ((s.setIx r (ocsub (s.ix r) 1)).modify (some r) a) = true := hin
      simp only [readMem_ready (s := s.setIx r (ocsub (s.ix r) 1)) h hin']
      split at ht
      · rename_i hh
        rw [if_pos (by exact hh)]
        exact goes_ok _
      · rename_i hh
        rw [if_neg (by exact hh)]
        exact ih h ⟨t, ht⟩
    · cases ht

theorem goes_search {hit : Word → State → Bool} {b : Desig} {m : Addr} {s : State} {c : IntCtl} (h : s.inter = [])
    (hh : ∀ x t, hit x (t.setCtl c) = hit x t) (hg : Goes (search hit b m (s.setCtl c))) :
    Goes (search hit b m s) := by
  refine goes_onResolved h (fun r a hg => ?_) hg
  obtain ⟨t, ht⟩ := hg
  cases r with
  | none => exact goes_readThen h (fun _ _ => goes_ok _) ⟨t, ht⟩
  | some i =>
    simp only at ht ⊢
    split at ht
    · cases ht
    · rename_i hn
      rw [if_neg (by exact hn)]
      split at ht
      · rename_i f u hu
        have e := goes_searchLoop (hit := fun x => hit x (s.setCtl c)) h ⟨_, hu⟩
        simp only [hh] at e
        obtain ⟨⟨p, q⟩, hp⟩ := e
        rw [show searchLoop (fun x => hit x s) i a (s.ix i).toNat s = .ok (p, q) from hp]
        exact goes_ok _
      · cases ht

/-- A return jump goes on at an exit point where it would elsewhere (its end is what refuses it there). -/
theorem goes_returnJump {m : Addr} {s : State} {b : Bool} (h : s.inter = [])
    (hg : Goes (returnJump m (s.setCtl { s.ctl with exiting := b }))) : Goes (returnJump m s) := by
  obtain ⟨t, ht⟩ := hg
  rcases returnJump_cases ht with ⟨ho, -⟩ | ⟨ho, u, hu, -⟩
  · have ho' : s.outOfBounds m = true := ho
    exact ⟨_, by simp only [returnJump, ho']; rfl⟩
  · have ho' : s.outOfBounds m = false := ho
    obtain ⟨v, hv⟩ := goes_modifyMem_setCtl (c := { s.ctl with exiting := b })
      (g := fun w => setField w 24 (s.p + 1)) h rfl ⟨_, hu⟩
    exact ⟨_, by simp only [returnJump, ho', writePart]; rw [hv]; rfl⟩

end Sys2Proof.Machine
end

