-- ==== Sys2Proof/Laws/PerInstr.lean ====
section
/-! SUPPORT. The family `Selects`: the words the encoder writes for an instruction lie in the instruction's own row of
spec/opcode_table.json, by the row's width, mask and match. One lemma for each constructor. -/

namespace Sys2Proof.Laws

/-- The mask and the match of a row of spec/opcode_table.json, at the row's width. -/
def Selects.row : Instr → Code × Code
  | .iaq => (.half 0xFFFFFF#24, .half 0x03816C#24)
  | .lda _ _ => (.half 0xFC0000#24, .half 0x280000#24)
  | .ldq _ _ => (.half 0xFC0000#24, .half 0x380000#24)
  | .sta _ _ => (.half 0xFC0000#24, .half 0x400000#24)
  | .stq _ _ => (.half 0xFC0000#24, .half 0x440000#24)
  | .lac _ _ => (.half 0xFC0000#24, .half 0x2C0000#24)
  | .lqc _ _ => (.half 0xFC0000#24, .half 0x3C0000#24)
  | .sal _ _ => (.half 0xFC0000#24, .half 0xC40000#24)
  | .sau _ _ => (.half 0xFC0000#24, .half 0xC00000#24)
  | .enq _ _ => (.half 0xFC0000#24, .half 0x100000#24)
  | .ena _ _ => (.half 0xFC0000#24, .half 0x200000#24)
  | .lil _ _ => (.half 0xFC0000#24, .half 0xAC0000#24)
  | .liu _ _ => (.half 0xFC0000#24, .half 0xA80000#24)
  | .sil _ _ => (.half 0xFC0000#24, .half 0xBC0000#24)
  | .siu _ _ => (.half 0xFC0000#24, .half 0xB80000#24)
  | .eni _ _ => (.half 0xFC0000#24, .half 0xA00000#24)
  | .ati _ => (.half 0xFFFFF8#24, .half 0x03C160#24)
  | .add _ _ => (.half 0xFC0000#24, .half 0x300000#24)
  | .sub _ _ => (.half 0xFC0000#24, .half 0x340000#24)
  | .mui _ _ => (.half 0xFC0000#24, .half 0x500000#24)
  | .dvi _ _ => (.half 0xFC0000#24, .half 0x540000#24)
  | .ina _ _ => (.half 0xFC0000#24, .half 0x240000#24)
  | .ini _ _ => (.half 0xFC0000#24, .half 0xA40000#24)
  | .isk _ _ => (.half 0xFC0000#24, .half 0xB00000#24)
  | .sst _ _ => (.half 0xFC0000#24, .half 0x800000#24)
  | .scl _ _ => (.half 0xFC0000#24, .half 0x840000#24)
  | .scm _ _ => (.half 0xFC0000#24, .half 0x880000#24)
  | .ssu _ _ => (.half 0xFC0000#24, .half 0x8C0000#24)
  | .ldl _ _ => (.half 0xFC0000#24, .half 0x900000#24)
  | .adl _ _ => (.half 0xFC0000#24, .half 0x940000#24)
  | .sbl _ _ => (.half 0xFC0000#24, .half 0x980000#24)
  | .stl _ _ => (.half 0xFC0000#24, .half 0x9C0000#24)
  | .ars _ _ => (.half 0xFC0000#24, .half 0x040000#24)
  | .qrs _ _ => (.half 0xFC0000#24, .half 0x080000#24)
  | .lrs _ _ => (.half 0xFC0000#24, .half 0x0C0000#24)
  | .als _ _ => (.half 0xFC0000#24, .half 0x140000#24)
  | .qls _ _ => (.half 0xFC0000#24, .half 0x180000#24)
  | .lls _ _ => (.half 0xFC0000#24, .half 0x1C0000#24)
  | .sca _ _ => (.half 0xFC0000#24, .half 0x700000#24)
  | .scq _ _ => (.half 0xFC0000#24, .half 0x740000#24)
  | .rad _ _ => (.half 0xFC0000#24, .half 0xE00000#24)
  | .rsb _ _ => (.half 0xFC0000#24, .half 0xE40000#24)
  | .rao _ _ => (.half 0xFC0000#24, .half 0xE80000#24)
  | .rso _ _ => (.half 0xFC0000#24, .half 0xEC0000#24)
  | .ssk _ _ => (.half 0xFC0000#24, .half 0x780000#24)
  | .ssh _ _ => (.half 0xFC0000#24, .half 0x7C0000#24)
  | .eqs _ _ => (.half 0xFC0000#24, .half 0xD00000#24)
  | .ths _ _ => (.half 0xFC0000#24, .half 0xD40000#24)
  | .meq _ _ => (.half 0xFC0000#24, .half 0xD80000#24)
  | .mth _ _ => (.half 0xFC0000#24, .half 0xDC0000#24)
  | .ajp _ _ => (.half 0xFE0000#24, .half 0x480000#24)
  | .arj _ _ => (.half 0xFE0000#24, .half 0x4A0000#24)
  | .qjp _ _ => (.half 0xFE0000#24, .half 0x4C0000#24)
  | .qrj _ _ => (.half 0xFE0000#24, .half 0x4E0000#24)
  | .ijp _ _ => (.half 0xFC0000#24, .half 0xB40000#24)
  | .slj _ _ => (.half 0xFE0000#24, .half 0xF40000#24)
  | .rtj _ _ => (.half 0xFE0000#24, .half 0xF60000#24)
  | .sls _ _ => (.half 0xFE0000#24, .half 0xF80000#24)
  | .srj _ _ => (.half 0xFE0000#24, .half 0xFA0000#24)
  | .conn _ _ _ => (.whole 0xFF8000E3F000#48, .whole 0xF00000000000#48)
  | .extf _ _ _ => (.whole 0xFF8000E3F000#48, .whole 0xF08000000000#48)
  | .begr _ _ _ => (.whole 0xFF8000E38000#48, .whole 0xF10000000000#48)
  | .begw _ _ _ => (.whole 0xFF8000E38000#48, .whole 0xF18000000000#48)
  | .copy _ => (.whole 0xFFFFFFE3FFFF#48, .whole 0xF20000000000#48)
  | .clch _ => (.whole 0xFFFFFFE3FFFF#48, .whole 0xF28000000000#48)
  | .ccwd _ => (.whole 0xFFFFFFE3FFFF#48, .whole 0xF30000000000#48)
  | .cis => (.half 0xFFFFFF#24, .half 0xFD0000#24)
  | .sen _ => (.half 0xFF8000#24, .half 0xFD8000#24)
  | .cpr => (.half 0xFFFFFF#24, .half 0xFE0000#24)
  | .inf _ => (.half 0xFF8000#24, .half 0xFC0000#24)
  | .aug _ _ _ _ => (.half 0xFF8FF8#24, .half 0xFC8000#24)
  | .eub _ => (.half 0xFF807F#24, .half 0xFE8000#24)
  | .elb _ => (.half 0xFF807F#24, .half 0xFF0000#24)
  | .ldc _ _ _ => (.whole 0xFC0FFFFF8000#48, .whole 0xCC0006A00000#48)
  | .stc _ _ _ => (.whole 0xFC0FFFFF8000#48, .whole 0xCC0006A28000#48)
  | .fad _ _ => (.half 0xFC0000#24, .half 0x600000#24)
  | .fsb _ _ => (.half 0xFC0000#24, .half 0x640000#24)
  | .fmu _ _ => (.half 0xFC0000#24, .half 0x680000#24)
  | .fdv _ _ => (.half 0xFC0000#24, .half 0x6C0000#24)

/-- A written instruction has the row's width, and its bits under the row's mask are the row's match. -/
def Selects.within : Code → Code × Code → Prop
  | .half h, (.half mask, .half value) => h &&& mask = value
  | .whole w, (.whole mask, .whole value) => w &&& mask = value
  | _, _ => False

/-- The family's statement about an instruction. -/
def Selects.Statement (i : Instr) : Prop := Selects.within (encode i) (Selects.row i)

/-! One lemma for each format. -/

theorem Selects.append_and {n k : Nat} (x u : BitVec n) (y v : BitVec k) :
    (x ++ y) &&& (u ++ v) = (x &&& u) ++ (y &&& v) := by
  apply BitVec.eq_of_getLsbD_eq
  intro i hi
  simp only [BitVec.getLsbD_and, BitVec.getLsbD_append]
  split <;> rfl

theorem Selects.class1 (f : BitVec 6) (b : BitVec 3) (m : Addr) :
    class1Bits f b m &&& 0xFC0000#24 = f ++ 0#3 ++ 0#15 := by
  rw [class1Bits, show (0xFC0000#24) = BitVec.allOnes 6 ++ 0#3 ++ 0#15 from rfl, append_and, append_and]
  simp only [BitVec.and_allOnes, BitVec.and_zero]

theorem Selects.classJ (f : BitVec 6) (r : BitVec 1) (j : BitVec 2) (m : Addr) :
    classJBits f r j m &&& 0xFE0000#24 = f ++ r ++ 0#2 ++ 0#15 := by
  rw [classJBits, show (0xFE0000#24) = BitVec.allOnes 6 ++ BitVec.allOnes 1 ++ 0#2 ++ 0#15 from rfl, append_and,
    append_and, append_and]
  simp only [BitVec.and_allOnes, BitVec.and_zero]

theorem Selects.class2 (f : BitVec 9) (y : Addr) : class2Bits f y &&& 0xFF8000#24 = f ++ 0#15 := by
  rw [class2Bits, show (0xFF8000#24) = BitVec.allOnes 9 ++ 0#15 from rfl, append_and]
  simp only [BitVec.and_allOnes, BitVec.and_zero]

theorem Selects.classBound (f : BitVec 9) (y : BitVec 8) : classBoundBits f y &&& 0xFF807F#24 = f ++ 0#8 ++ 0#7 := by
  rw [classBoundBits, show (0xFF807F#24) = BitVec.allOnes 9 ++ 0#8 ++ BitVec.allOnes 7 from rfl, append_and, append_and]
  simp only [BitVec.and_allOnes, BitVec.and_zero]

theorem Selects.classAug (f : BitVec 9) (v t : BitVec 3) :
    classAugBits f v t &&& 0xFF8FF8#24 = f ++ 0#3 ++ 0#9 ++ 0#3 := by
  rw [classAugBits, show (0xFF8FF8#24) = BitVec.allOnes 9 ++ 0#3 ++ BitVec.allOnes 9 ++ 0#3 from rfl, append_and,
    append_and, append_and]
  simp only [BitVec.and_allOnes, BitVec.and_zero]

theorem Selects.classAti (f : BitVec 21) (b : BitVec 3) : classAtiBits f b &&& 0xFFFFF8#24 = f ++ 0#3 := by
  rw [classAtiBits, show (0xFFFFF8#24) = BitVec.allOnes 21 ++ 0#3 from rfl, append_and]
  simp only [BitVec.and_allOnes, BitVec.and_zero]

theorem Selects.class3c (f : BitVec 9) (n : Addr) (x : BitVec 3) (c : BitVec 12) :
    class3cBits f n x c &&& 0xFF8000E3F000#48 = f ++ 0#15 ++ 0#3 ++ 0#3 ++ 0#6 ++ 0#12 := by
  rw [class3cBits, show (0xFF8000E3F000#48) =
    BitVec.allOnes 9 ++ 0#15 ++ BitVec.allOnes 3 ++ 0#3 ++ BitVec.allOnes 6 ++ 0#12 from rfl, append_and, append_and,
    append_and, append_and, append_and]
  simp only [BitVec.and_allOnes, BitVec.and_zero]

theorem Selects.class3m (f : BitVec 9) (n : Addr) (x : BitVec 3) (m : Addr) :
    class3mBits f n x m &&& 0xFF8000E38000#48 = f ++ 0#15 ++ 0#3 ++ 0#3 ++ 0#3 ++ 0#15 := by
  rw [class3mBits, show (0xFF8000E38000#48) =
    BitVec.allOnes 9 ++ 0#15 ++ BitVec.allOnes 3 ++ 0#3 ++ BitVec.allOnes 3 ++ 0#15 from rfl, append_and, append_and,
    append_and, append_and, append_and]
  simp only [BitVec.and_allOnes, BitVec.and_zero]

theorem Selects.class3x (f : BitVec 9) (x : BitVec 3) :
    class3xBits f x &&& 0xFFFFFFE3FFFF#48 = f ++ 0#18 ++ 0#3 ++ 0#18 := by
  rw [class3xBits, show (0xFFFFFFE3FFFF#48) = BitVec.allOnes 9 ++ BitVec.allOnes 18 ++ 0#3 ++ BitVec.allOnes 18 from rfl,
    append_and, append_and, append_and]
  simp only [BitVec.and_allOnes, BitVec.and_zero]

theorem Selects.classChar (f : BitVec 6) (b v : BitVec 3) (k : BitVec 21) (m : Addr) :
    classCharBits f b v k m &&& 0xFC0FFFFF8000#48 = f ++ 0#3 ++ 0#3 ++ k ++ 0#15 := by
  rw [classCharBits, show (0xFC0FFFFF8000#48) = BitVec.allOnes 6 ++ 0#3 ++ 0#3 ++ BitVec.allOnes 21 ++ 0#15 from rfl,
    append_and, append_and, append_and, append_and]
  simp only [BitVec.and_allOnes, BitVec.and_zero]

/-! One lemma for each constructor. -/

theorem Selects.iaq : Selects.Statement .iaq := show (_ : HalfWord) &&& _ = _ from rfl
theorem Selects.lda (b : Desig) (m : Addr) : Selects.Statement (.lda b m) := Selects.class1 0o12#6 b.bits m
theorem Selects.ldq (b : Desig) (m : Addr) : Selects.Statement (.ldq b m) := Selects.class1 0o16#6 b.bits m
theorem Selects.sta (b : Desig) (m : Addr) : Selects.Statement (.sta b m) := Selects.class1 0o20#6 b.bits m
theorem Selects.stq (b : Desig) (m : Addr) : Selects.Statement (.stq b m) := Selects.class1 0o21#6 b.bits m
theorem Selects.lac (b : Desig) (m : Addr) : Selects.Statement (.lac b m) := Selects.class1 0o13#6 b.bits m
theorem Selects.lqc (b : Desig) (m : Addr) : Selects.Statement (.lqc b m) := Selects.class1 0o17#6 b.bits m
theorem Selects.sal (b : Desig) (m : Addr) : Selects.Statement (.sal b m) := Selects.class1 0o61#6 b.bits m
theorem Selects.sau (b : Desig) (m : Addr) : Selects.Statement (.sau b m) := Selects.class1 0o60#6 b.bits m
theorem Selects.enq (b : Desig) (y : Addr) : Selects.Statement (.enq b y) := Selects.class1 0o04#6 b.bits y
theorem Selects.ena (b : Desig) (y : Addr) : Selects.Statement (.ena b y) := Selects.class1 0o10#6 b.bits y
theorem Selects.lil (b : Desig) (m : Addr) : Selects.Statement (.lil b m) := Selects.class1 0o53#6 b.bits m
theorem Selects.liu (b : Desig) (m : Addr) : Selects.Statement (.liu b m) := Selects.class1 0o52#6 b.bits m
theorem Selects.sil (b : Desig) (m : Addr) : Selects.Statement (.sil b m) := Selects.class1 0o57#6 b.bits m
theorem Selects.siu (b : Desig) (m : Addr) : Selects.Statement (.siu b m) := Selects.class1 0o56#6 b.bits m
theorem Selects.eni (b : Desig) (y : Addr) : Selects.Statement (.eni b y) := Selects.class1 0o50#6 b.bits y
theorem Selects.ati (b : Desig) : Selects.Statement (.ati b) := Selects.classAti 0o0074054#21 b.bits
theorem Selects.add (b : Desig) (m : Addr) : Selects.Statement (.add b m) := Selects.class1 0o14#6 b.bits m
theorem Selects.sub (b : Desig) (m : Addr) : Selects.Statement (.sub b m) := Selects.class1 0o15#6 b.bits m
theorem Selects.mui (b : Desig) (m : Addr) : Selects.Statement (.mui b m) := Selects.class1 0o24#6 b.bits m
theorem Selects.dvi (b : Desig) (m : Addr) : Selects.Statement (.dvi b m) := Selects.class1 0o25#6 b.bits m
theorem Selects.ina (b : Desig) (y : Addr) : Selects.Statement (.ina b y) := Selects.class1 0o11#6 b.bits y
theorem Selects.ini (b : Desig) (y : Addr) : Selects.Statement (.ini b y) := Selects.class1 0o51#6 b.bits y
theorem Selects.isk (b : Desig) (y : Addr) : Selects.Statement (.isk b y) := Selects.class1 0o54#6 b.bits y
theorem Selects.sst (b : Desig) (m : Addr) : Selects.Statement (.sst b m) := Selects.class1 0o40#6 b.bits m
theorem Selects.scl (b : Desig) (m : Addr) : Selects.Statement (.scl b m) := Selects.class1 0o41#6 b.bits m
theorem Selects.scm (b : Desig) (m : Addr) : Selects.Statement (.scm b m) := Selects.class1 0o42#6 b.bits m
theorem Selects.ssu (b : Desig) (m : Addr) : Selects.Statement (.ssu b m) := Selects.class1 0o43#6 b.bits m
theorem Selects.ldl (b : Desig) (m : Addr) : Selects.Statement (.ldl b m) := Selects.class1 0o44#6 b.bits m
theorem Selects.adl (b : Desig) (m : Addr) : Selects.Statement (.adl b m) := Selects.class1 0o45#6 b.bits m
theorem Selects.sbl (b : Desig) (m : Addr) : Selects.Statement (.sbl b m) := Selects.class1 0o46#6 b.bits m
theorem Selects.stl (b : Desig) (m : Addr) : Selects.Statement (.stl b m) := Selects.class1 0o47#6 b.bits m
theorem Selects.ars (b : Desig) (k : Addr) : Selects.Statement (.ars b k) := Selects.class1 0o01#6 b.bits k
theorem Selects.qrs (b : Desig) (k : Addr) : Selects.Statement (.qrs b k) := Selects.class1 0o02#6 b.bits k
theorem Selects.lrs (b : Desig) (k : Addr) : Selects.Statement (.lrs b k) := Selects.class1 0o03#6 b.bits k
theorem Selects.als (b : Desig) (k : Addr) : Selects.Statement (.als b k) := Selects.class1 0o05#6 b.bits k
theorem Selects.qls (b : Desig) (k : Addr) : Selects.Statement (.qls b k) := Selects.class1 0o06#6 b.bits k
theorem Selects.lls (b : Desig) (k : Addr) : Selects.Statement (.lls b k) := Selects.class1 0o07#6 b.bits k
theorem Selects.sca (b : Desig) (k : Addr) : Selects.Statement (.sca b k) := Selects.class1 0o34#6 b.bits k
theorem Selects.scq (b : Desig) (k : Addr) : Selects.Statement (.scq b k) := Selects.class1 0o35#6 b.bits k
theorem Selects.rad (b : Desig) (m : Addr) : Selects.Statement (.rad b m) := Selects.class1 0o70#6 b.bits m
theorem Selects.rsb (b : Desig) (m : Addr) : Selects.Statement (.rsb b m) := Selects.class1 0o71#6 b.bits m
theorem Selects.rao (b : Desig) (m : Addr) : Selects.Statement (.rao b m) := Selects.class1 0o72#6 b.bits m
theorem Selects.rso (b : Desig) (m : Addr) : Selects.Statement (.rso b m) := Selects.class1 0o73#6 b.bits m
theorem Selects.ssk (b : Desig) (m : Addr) : Selects.Statement (.ssk b m) := Selects.class1 0o36#6 b.bits m
theorem Selects.ssh (b : Desig) (m : Addr) : Selects.Statement (.ssh b m) := Selects.class1 0o37#6 b.bits m
theorem Selects.eqs (b : Desig) (m : Addr) : Selects.Statement (.eqs b m) := Selects.class1 0o64#6 b.bits m
theorem Selects.ths (b : Desig) (m : Addr) : Selects.Statement (.ths b m) := Selects.class1 0o65#6 b.bits m
theorem Selects.meq (b : Desig) (m : Addr) : Selects.Statement (.meq b m) := Selects.class1 0o66#6 b.bits m
theorem Selects.mth (b : Desig) (m : Addr) : Selects.Statement (.mth b m) := Selects.class1 0o67#6 b.bits m
theorem Selects.ajp (j : RegCond) (m : Addr) : Selects.Statement (.ajp j m) := Selects.classJ 0o22#6 0#1 j.bits m
theorem Selects.arj (j : RegCond) (m : Addr) : Selects.Statement (.arj j m) := Selects.classJ 0o22#6 1#1 j.bits m
theorem Selects.qjp (j : RegCond) (m : Addr) : Selects.Statement (.qjp j m) := Selects.classJ 0o23#6 0#1 j.bits m
theorem Selects.qrj (j : RegCond) (m : Addr) : Selects.Statement (.qrj j m) := Selects.classJ 0o23#6 1#1 j.bits m
theorem Selects.ijp (b : Desig) (m : Addr) : Selects.Statement (.ijp b m) := Selects.class1 0o55#6 b.bits m
theorem Selects.slj (j : SwCond) (m : Addr) : Selects.Statement (.slj j m) := Selects.classJ 0o75#6 0#1 j.bits m
theorem Selects.rtj (j : SwCond) (m : Addr) : Selects.Statement (.rtj j m) := Selects.classJ 0o75#6 1#1 j.bits m
theorem Selects.sls (j : SwCond) (m : Addr) : Selects.Statement (.sls j m) := Selects.classJ 0o76#6 0#1 j.bits m
theorem Selects.srj (j : SwCond) (m : Addr) : Selects.Statement (.srj j m) := Selects.classJ 0o76#6 1#1 j.bits m
theorem Selects.conn (n : Addr) (x : BitVec 3) (c : BitVec 12) : Selects.Statement (.conn n x c) :=
  Selects.class3c 0o740#9 n x c
theorem Selects.extf (n : Addr) (x : BitVec 3) (c : BitVec 12) : Selects.Statement (.extf n x c) :=
  Selects.class3c 0o741#9 n x c
theorem Selects.begr (n : Addr) (x : BitVec 3) (m : Addr) : Selects.Statement (.begr n x m) :=
  Selects.class3m 0o742#9 n x m
theorem Selects.begw (n : Addr) (x : BitVec 3) (m : Addr) : Selects.Statement (.begw n x m) :=
  Selects.class3m 0o743#9 n x m
theorem Selects.copy (x : BitVec 3) : Selects.Statement (.copy x) := Selects.class3x 0o744#9 x
theorem Selects.clch (x : BitVec 3) : Selects.Statement (.clch x) := Selects.class3x 0o745#9 x
theorem Selects.ccwd (x : BitVec 3) : Selects.Statement (.ccwd x) := Selects.class3x 0o746#9 x
theorem Selects.cis : Selects.Statement .cis := show (_ : HalfWord) &&& _ = _ from rfl
theorem Selects.sen (y : Addr) : Selects.Statement (.sen y) := Selects.class2 0o773#9 y
theorem Selects.cpr : Selects.Statement .cpr := show (_ : HalfWord) &&& _ = _ from rfl
theorem Selects.inf (y : Addr) : Selects.Statement (.inf y) := Selects.class2 0o770#9 y
theorem Selects.aug (v : Desig) (t2 : Bool) (t1 : Bool) (t0 : Bool) : Selects.Statement (.aug v t2 t1 t0) :=
  Selects.classAug 0o771#9 v.bits (augBits t2 t1 t0)
theorem Selects.eub (y : BitVec 8) : Selects.Statement (.eub y) := Selects.classBound 0o775#9 y
theorem Selects.elb (y : BitVec 8) : Selects.Statement (.elb y) := Selects.classBound 0o776#9 y
theorem Selects.ldc (b : Desig) (v : Desig) (m : Addr) : Selects.Statement (.ldc b v m) :=
  Selects.classChar 0o63#6 b.bits v.bits 0o0006500#21 m
theorem Selects.stc (b : Desig) (v : Desig) (m : Addr) : Selects.Statement (.stc b v m) :=
  Selects.classChar 0o63#6 b.bits v.bits 0o0006505#21 m
theorem Selects.fad (b : Desig) (m : Addr) : Selects.Statement (.fad b m) := Selects.class1 0o30#6 b.bits m
theorem Selects.fsb (b : Desig) (m : Addr) : Selects.Statement (.fsb b m) := Selects.class1 0o31#6 b.bits m
theorem Selects.fmu (b : Desig) (m : Addr) : Selects.Statement (.fmu b m) := Selects.class1 0o32#6 b.bits m
theorem Selects.fdv (b : Desig) (m : Addr) : Selects.Statement (.fdv b m) := Selects.class1 0o33#6 b.bits m

end Sys2Proof.Laws
end

