-- ==== Sys2Proof/Tests/Slice0.lean ====
section
/-! SUPPORT. The model's own tests: the ill-formed terms that `Instr.wf` refuses, a word for every constructor, one step
on small states with the results of spec/95_test_vectors.md, and a witness for the hypotheses of every statement. -/

namespace Sys2Proof.Tests

open Sys2Proof.Machine

/-! ### Well-formedness: an ill-formed term for each check -/

theorem test_wf_ati : (Instr.ati .zero).wf = false ∧ (Instr.ati .seven).wf = false ∧ (Instr.ati (.ix .b6)).wf = true := by
  decide
theorem test_wf_ldc : (Instr.ldc .zero .zero 0).wf = false ∧ (Instr.ldc .zero .seven 0).wf = false ∧
    (Instr.ldc .zero (.ix .b1) 0).wf = true := by decide
theorem test_wf_stc : (Instr.stc .zero .zero 0).wf = false ∧ (Instr.stc .zero .seven 0).wf = false ∧
    (Instr.stc .zero (.ix .b1) 0).wf = true := by decide
theorem test_wf_inf : (Instr.inf 0o00002).wf = false ∧ (Instr.inf 0o00603).wf = false ∧ (Instr.inf 0o00602).wf = true := by
  decide
theorem test_wf_sen : (Instr.sen 0o00002).wf = false ∧ (Instr.sen 0o00222).wf = false ∧ (Instr.sen 0o00221).wf = true := by
  decide
theorem test_wf_conn : (Instr.conn 0 4 0).wf = false ∧ (Instr.conn 0 3 0).wf = true := by decide
theorem test_wf_extf : (Instr.extf 0 4 0).wf = false ∧ (Instr.extf 0 3 0).wf = true := by decide
theorem test_wf_begr : (Instr.begr 0 7 0).wf = false ∧ (Instr.begr 0 3 0).wf = true := by decide
theorem test_wf_begw : (Instr.begw 0 7 0).wf = false ∧ (Instr.begw 0 3 0).wf = true := by decide
theorem test_wf_copy : (Instr.copy 4).wf = false ∧ (Instr.copy 3).wf = true := by decide
theorem test_wf_clch : (Instr.clch 4).wf = false ∧ (Instr.clch 3).wf = true := by decide
theorem test_wf_ccwd : (Instr.ccwd 4).wf = false ∧ (Instr.ccwd 3).wf = true := by decide

/-! ### Decoding: a word written out from the encodings of spec/30_encoding.md R91 to R95 and R104 -/

theorem test_decode_iaq : decode (.half 0o00700554#24) = .instr .iaq := by decide
theorem test_decode_lda : decode (.half 0o12010421#24) = .instr (.lda .zero 0o10421) := by decide
theorem test_decode_ldq : decode (.half 0o16121042#24) = .instr (.ldq (.ix .b1) 0o21042) := by decide
theorem test_decode_sta : decode (.half 0o20231463#24) = .instr (.sta (.ix .b2) 0o31463) := by decide
theorem test_decode_stq : decode (.half 0o21342104#24) = .instr (.stq (.ix .b3) 0o42104) := by decide
theorem test_decode_lac : decode (.half 0o13452525#24) = .instr (.lac (.ix .b4) 0o52525) := by decide
theorem test_decode_lqc : decode (.half 0o17563146#24) = .instr (.lqc (.ix .b5) 0o63146) := by decide
theorem test_decode_sal : decode (.half 0o61673567#24) = .instr (.sal (.ix .b6) 0o73567) := by decide
theorem test_decode_sau : decode (.half 0o60704210#24) = .instr (.sau .seven 0o04210) := by decide
theorem test_decode_enq : decode (.half 0o04014631#24) = .instr (.enq .zero 0o14631) := by decide
theorem test_decode_ena : decode (.half 0o10125252#24) = .instr (.ena (.ix .b1) 0o25252) := by decide
theorem test_decode_lil : decode (.half 0o53235673#24) = .instr (.lil (.ix .b2) 0o35673) := by decide
theorem test_decode_liu : decode (.half 0o52346314#24) = .instr (.liu (.ix .b3) 0o46314) := by decide
theorem test_decode_sil : decode (.half 0o57456735#24) = .instr (.sil (.ix .b4) 0o56735) := by decide
theorem test_decode_siu : decode (.half 0o56567356#24) = .instr (.siu (.ix .b5) 0o67356) := by decide
theorem test_decode_eni : decode (.half 0o50677777#24) = .instr (.eni (.ix .b6) 0o77777) := by decide
theorem test_decode_add : decode (.half 0o14710420#24) = .instr (.add .seven 0o10420) := by decide
theorem test_decode_sub : decode (.half 0o15021041#24) = .instr (.sub .zero 0o21041) := by decide
theorem test_decode_mui : decode (.half 0o24131462#24) = .instr (.mui (.ix .b1) 0o31462) := by decide
theorem test_decode_dvi : decode (.half 0o25242103#24) = .instr (.dvi (.ix .b2) 0o42103) := by decide
theorem test_decode_ina : decode (.half 0o11352524#24) = .instr (.ina (.ix .b3) 0o52524) := by decide
theorem test_decode_ini : decode (.half 0o51463145#24) = .instr (.ini (.ix .b4) 0o63145) := by decide
theorem test_decode_isk : decode (.half 0o54573566#24) = .instr (.isk (.ix .b5) 0o73566) := by decide
theorem test_decode_sst : decode (.half 0o40604207#24) = .instr (.sst (.ix .b6) 0o04207) := by decide
theorem test_decode_scl : decode (.half 0o41714630#24) = .instr (.scl .seven 0o14630) := by decide
theorem test_decode_scm : decode (.half 0o42025251#24) = .instr (.scm .zero 0o25251) := by decide
theorem test_decode_ssu : decode (.half 0o43135672#24) = .instr (.ssu (.ix .b1) 0o35672) := by decide
theorem test_decode_ldl : decode (.half 0o44246313#24) = .instr (.ldl (.ix .b2) 0o46313) := by decide
theorem test_decode_adl : decode (.half 0o45356734#24) = .instr (.adl (.ix .b3) 0o56734) := by decide
theorem test_decode_sbl : decode (.half 0o46467355#24) = .instr (.sbl (.ix .b4) 0o67355) := by decide
theorem test_decode_stl : decode (.half 0o47577776#24) = .instr (.stl (.ix .b5) 0o77776) := by decide
theorem test_decode_ars : decode (.half 0o01610417#24) = .instr (.ars (.ix .b6) 0o10417) := by decide
theorem test_decode_qrs : decode (.half 0o02721040#24) = .instr (.qrs .seven 0o21040) := by decide
theorem test_decode_lrs : decode (.half 0o03031461#24) = .instr (.lrs .zero 0o31461) := by decide
theorem test_decode_als : decode (.half 0o05142102#24) = .instr (.als (.ix .b1) 0o42102) := by decide
theorem test_decode_qls : decode (.half 0o06252523#24) = .instr (.qls (.ix .b2) 0o52523) := by decide
theorem test_decode_lls : decode (.half 0o07363144#24) = .instr (.lls (.ix .b3) 0o63144) := by decide
theorem test_decode_sca : decode (.half 0o34473565#24) = .instr (.sca (.ix .b4) 0o73565) := by decide
theorem test_decode_scq : decode (.half 0o35504206#24) = .instr (.scq (.ix .b5) 0o04206) := by decide
theorem test_decode_rad : decode (.half 0o70614627#24) = .instr (.rad (.ix .b6) 0o14627) := by decide
theorem test_decode_rsb : decode (.half 0o71725250#24) = .instr (.rsb .seven 0o25250) := by decide
theorem test_decode_rao : decode (.half 0o72035671#24) = .instr (.rao .zero 0o35671) := by decide
theorem test_decode_rso : decode (.half 0o73146312#24) = .instr (.rso (.ix .b1) 0o46312) := by decide
theorem test_decode_ssk : decode (.half 0o36256733#24) = .instr (.ssk (.ix .b2) 0o56733) := by decide
theorem test_decode_ssh : decode (.half 0o37367354#24) = .instr (.ssh (.ix .b3) 0o67354) := by decide
theorem test_decode_eqs : decode (.half 0o64477775#24) = .instr (.eqs (.ix .b4) 0o77775) := by decide
theorem test_decode_ths : decode (.half 0o65510416#24) = .instr (.ths (.ix .b5) 0o10416) := by decide
theorem test_decode_meq : decode (.half 0o66621037#24) = .instr (.meq (.ix .b6) 0o21037) := by decide
theorem test_decode_mth : decode (.half 0o67731460#24) = .instr (.mth .seven 0o31460) := by decide
theorem test_decode_ijp : decode (.half 0o55042101#24) = .instr (.ijp .zero 0o42101) := by decide
theorem test_decode_fad : decode (.half 0o30152522#24) = .instr (.fad (.ix .b1) 0o52522) := by decide
theorem test_decode_fsb : decode (.half 0o31263143#24) = .instr (.fsb (.ix .b2) 0o63143) := by decide
theorem test_decode_fmu : decode (.half 0o32373564#24) = .instr (.fmu (.ix .b3) 0o73564) := by decide
theorem test_decode_fdv : decode (.half 0o33404205#24) = .instr (.fdv (.ix .b4) 0o04205) := by decide
theorem test_decode_ati : decode (.half 0o00740546#24) = .instr (.ati (.ix .b6)) := by decide
theorem test_decode_ajp :
    decode (.half 0o22002001#24) = .instr (.ajp .zero 0o02001) ∧
    decode (.half 0o22102001#24) = .instr (.ajp .nonzero 0o02001) ∧
    decode (.half 0o22202001#24) = .instr (.ajp .positive 0o02001) ∧
    decode (.half 0o22302001#24) = .instr (.ajp .negative 0o02001) := by decide
theorem test_decode_arj :
    decode (.half 0o22402001#24) = .instr (.arj .zero 0o02001) ∧
    decode (.half 0o22502001#24) = .instr (.arj .nonzero 0o02001) ∧
    decode (.half 0o22602001#24) = .instr (.arj .positive 0o02001) ∧
    decode (.half 0o22702001#24) = .instr (.arj .negative 0o02001) := by decide
theorem test_decode_qjp :
    decode (.half 0o23002001#24) = .instr (.qjp .zero 0o02001) ∧
    decode (.half 0o23102001#24) = .instr (.qjp .nonzero 0o02001) ∧
    decode (.half 0o23202001#24) = .instr (.qjp .positive 0o02001) ∧
    decode (.half 0o23302001#24) = .instr (.qjp .negative 0o02001) := by decide
theorem test_decode_qrj :
    decode (.half 0o23402001#24) = .instr (.qrj .zero 0o02001) ∧
    decode (.half 0o23502001#24) = .instr (.qrj .nonzero 0o02001) ∧
    decode (.half 0o23602001#24) = .instr (.qrj .positive 0o02001) ∧
    decode (.half 0o23702001#24) = .instr (.qrj .negative 0o02001) := by decide
theorem test_decode_slj :
    decode (.half 0o75002001#24) = .instr (.slj .always 0o02001) ∧
    decode (.half 0o75102001#24) = .instr (.slj .sw1 0o02001) ∧
    decode (.half 0o75202001#24) = .instr (.slj .sw2 0o02001) ∧
    decode (.half 0o75302001#24) = .instr (.slj .sw3 0o02001) := by decide
theorem test_decode_rtj :
    decode (.half 0o75402001#24) = .instr (.rtj .always 0o02001) ∧
    decode (.half 0o75502001#24) = .instr (.rtj .sw1 0o02001) ∧
    decode (.half 0o75602001#24) = .instr (.rtj .sw2 0o02001) ∧
    decode (.half 0o75702001#24) = .instr (.rtj .sw3 0o02001) := by decide
theorem test_decode_sls :
    decode (.half 0o76002001#24) = .instr (.sls .always 0o02001) ∧
    decode (.half 0o76102001#24) = .instr (.sls .sw1 0o02001) ∧
    decode (.half 0o76202001#24) = .instr (.sls .sw2 0o02001) ∧
    decode (.half 0o76302001#24) = .instr (.sls .sw3 0o02001) := by decide
theorem test_decode_srj :
    decode (.half 0o76402001#24) = .instr (.srj .always 0o02001) ∧
    decode (.half 0o76502001#24) = .instr (.srj .sw1 0o02001) ∧
    decode (.half 0o76602001#24) = .instr (.srj .sw2 0o02001) ∧
    decode (.half 0o76702001#24) = .instr (.srj .sw3 0o02001) := by decide
theorem test_decode_conn :
    decode (.whole 0o7402000001004001#48) = .instr (.conn 0o20000 1 0o4001) := by decide
theorem test_decode_extf :
    decode (.whole 0o7411000402000002#48) = .instr (.extf 0o10004 2 0o0002) := by decide
theorem test_decode_begr :
    decode (.whole 0o7421001601030001#48) = .instr (.begr 0o10016 1 0o30001) := by decide
theorem test_decode_begw :
    decode (.whole 0o7431000403030000#48) = .instr (.begw 0o10004 3 0o30000) := by decide
theorem test_decode_copy :
    decode (.whole 0o7440000001000000#48) = .instr (.copy 1) := by decide
theorem test_decode_clch :
    decode (.whole 0o7450000002000000#48) = .instr (.clch 2) := by decide
theorem test_decode_ccwd :
    decode (.whole 0o7460000003000000#48) = .instr (.ccwd 3) := by decide
theorem test_decode_cis : decode (.half 0o77200000#24) = .instr .cis := by decide
theorem test_decode_sen : decode (.half 0o77300221#24) = .instr (.sen 0o00221) := by decide
theorem test_decode_cpr : decode (.half 0o77400000#24) = .instr .cpr := by decide
theorem test_decode_inf : decode (.half 0o77000430#24) = .instr (.inf 0o00430) := by decide
theorem test_decode_aug : decode (.half 0o77120006#24) = .instr (.aug (.ix .b2) true true false) := by decide
theorem test_decode_eub : decode (.half 0o77540000#24) = .instr (.eub 0o200) := by decide
theorem test_decode_elb : decode (.half 0o77604000#24) = .instr (.elb 0o020) := by decide
theorem test_decode_ldc :
    decode (.whole 0o6332000650000200#48) = .instr (.ldc (.ix .b3) (.ix .b2) 0o00200) := by decide
theorem test_decode_stc :
    decode (.whole 0o6301000650500200#48) = .instr (.stc .zero (.ix .b1) 0o00200) := by decide

theorem test_decode_illegal :
    decode (.half 0o26000000#24) = .illegal ∧ decode (.half 0o27700001#24) = .illegal ∧
    decode (.half 0o77712345#24) = .illegal ∧ decode (.whole 0o7471234500000001#48) = .illegal := by decide
theorem test_decode_unlisted :
    decode (.half 0o62000000#24) = .unlisted .code62 ∧ decode (.half 0o00000000#24) = .unlisted .code00 ∧
    decode (.half 0o74000000#24) = .unlisted .wholeInLowerHalf ∧ decode (.half 0o77200001#24) = .unlisted .nonzeroField ∧
    decode (.whole 0o6301000650100200#48) = .unlisted .code63 ∧
    decode (.whole 0o7440000001000001#48) = .unlisted .nonzeroField := by decide
theorem test_table_word :
    decodeTableWord 24 0o12100210 = some (.lda (.ix .b1) 0o210) ∧
    decodeTableWord 48 0o7440000001000000 = some (.copy 1) ∧ decodeTableWord 24 0o26000000 = none := by decide

/-! ### One step, with the results of spec/95_test_vectors.md -/

/-- The machine running at the upper half of step 01000, which holds a word. -/
def machine (w : Word) : State :=
  ((State.reset.setP 0o1000).setMem (Memory.writeWord [] 0o1000 w)).setRunning true

/-- A word of storage set. -/
def holding (s : State) (a : Addr) (w : Word) : State := s.setMem (s.mem.writeWord a w)

/-- What is seen of the state that one step leads to. -/
def seen {α : Type} (s : State) (f : State → α) : Option α :=
  match step s with
  | .next t => some (f t)
  | .fault _ => none
  | .refused _ => none

/-- The pointer. -/
def pointer (s : State) : Addr × Half := (s.p, s.half)

/-- 2.3.10 -/
theorem test_iaq :
    seen (((machine 0o0070055450000000#48).setA 0o1).setQ 0o2) (fun t => (t.a, t.q)) =
      some (0o2#48, 0o1#48) := by decide

/-- 2.3.2 -/
theorem test_lda :
    seen (holding ((machine 0o1210021050000000#48).setIx .b1 0o100) 0o310 0o1234567012345670) (·.a) =
      some 0o1234567012345670#48 := by decide

/-- 2.3.4 -/
theorem test_lac :
    seen (holding (machine 0o1300020050000000#48) 0o200 0o1234567012345670) (·.a) =
      some 0o6543210765432107#48 := by decide

/-- 2.3.6 -/
theorem test_ldq :
    seen (holding (machine 0o1600020050000000#48) 0o200 0o1234567012345670) (·.q) =
      some 0o1234567012345670#48 := by decide

/-- 2.3.7 -/
theorem test_lqc :
    seen (holding (machine 0o1700020050000000#48) 0o200 0o1234567012345670) (·.q) =
      some 0o6543210765432107#48 := by decide

/-- 2.3.8 -/
theorem test_sta :
    seen ((machine 0o2000020050000000#48).setA 0o1234567012345670) (·.mem.readWord 0o200) =
      some 0o1234567012345670#48 := by decide

/-- 2.3.9 -/
theorem test_stq :
    seen (((machine 0o2120020150000000#48).setIx .b2 0o77776).setQ 0o1234567012345670) (·.mem.readWord 0o200) =
      some 0o1234567012345670#48 := by decide

/-- 2.3.11 -/
theorem test_liu :
    seen (holding (machine 0o5230020050000000#48) 0o200 0o1212345634554321) (·.ix .b3) =
      some 0o23456#15 := by decide

/-- 2.3.12 -/
theorem test_lil :
    seen (holding (machine 0o5330020050000000#48) 0o200 0o1212345634554321) (·.ix .b3) =
      some 0o54321#15 := by decide

/-- 2.3.14 -/
theorem test_siu :
    seen (holding ((machine 0o5640020050000000#48).setIx .b4 0o77001) 0o200 0o1212345634554321) (·.mem.readWord 0o200) =
      some 0o1217700134554321#48 := by decide

/-- 2.3.15 -/
theorem test_sil :
    seen (holding ((machine 0o5740020050000000#48).setIx .b4 0o77001) 0o200 0o1212345634554321) (·.mem.readWord 0o200) =
      some 0o1212345634577001#48 := by decide

/-- 2.3.17 -/
theorem test_sau :
    seen (holding ((machine 0o6000020050000000#48).setA 0o7777700000012345) 0o200 0o1212345634554321) (·.mem.readWord 0o200) =
      some 0o1211234534554321#48 := by decide

/-- 2.3.18 -/
theorem test_sal :
    seen (holding (((machine 0o6110017750000000#48).setIx .b1 0o1).setA 0o12345) 0o200 0o1212345634554321) (·.mem.readWord 0o200) =
      some 0o1212345634512345#48 := by decide

/-- 2.3.20 -/
theorem test_ena : seen (machine 0o1007777650000000#48) (·.a) = some 0o7777777777777776#48 := by decide

/-- 2.3.22 -/
theorem test_enq : seen (machine 0o0404000050000000#48) (·.q) = some 0o7777777777740000#48 := by decide

/-- 2.3.23 -/
theorem test_eni : seen (machine 0o5050007750000000#48) (·.ix .b5) = some 0o77#15 := by decide

/-- 2.3.25 -/
theorem test_ati :
    seen ((machine 0o0074054650000000#48).setA 0o1234567012345670) (·.ix .b6) = some 0o45670#15 := by decide

/-- 2.4.1 -/
theorem test_add :
    seen (holding ((machine 0o1400020050000000#48).setA 0o5) 0o200 0o7) (·.a) = some 0o14#48 := by decide

/-- 2.4.5 -/
theorem test_add_overflow :
    seen (holding ((machine 0o1400020050000000#48).setA 0o3777777777777777) 0o200 0o1) (·.intr) =
      some 0o10#48 := by decide

/-- 2.4.7 -/
theorem test_sub :
    seen (holding ((machine 0o1500020050000000#48).setA 0o3) 0o200 0o5) (·.a) =
      some 0o7777777777777775#48 := by decide

/-- 2.4.11 -/
theorem test_mui :
    seen (holding ((machine 0o2400020050000000#48).setA 0o7777777777777771) 0o200 0o7) (fun t => (t.a, t.q)) =
      some (0o7777777777777725#48, 0o7777777777777777#48) := by decide

/-- 2.4.15 -/
theorem test_dvi :
    seen (holding (((machine 0o2500020050000000#48).setA 0o7777777777777720).setQ 0o7777777777777777) 0o200 0o5) (fun t => (t.a, t.q)) =
      some (0o7777777777777766#48, 0o7777777777777775#48) := by decide

/-- 2.4.20 -/
theorem test_dvi_fault :
    seen (holding ((machine 0o2500020050000000#48).setQ 0o1) 0o200 0o1) (·.intr) = some 0o4#48 := by decide

/-- 2.4.22 -/
theorem test_ina : seen ((machine 0o1107777450000000#48).setA 0o12) (·.a) = some 0o7#48 := by decide

/-- 2.4.25 -/
theorem test_ini : seen ((machine 0o5110000150000000#48).setIx .b1 0o77776) (·.ix .b1) = some 0o0#15 := by decide

/-- 2.4.27 -/
theorem test_isk : seen ((machine 0o5410000550000000#48).setIx .b1 0o3) (·.ix .b1) = some 0o4#15 := by decide

/-- 2.4.28 -/
theorem test_isk_skip :
    seen ((machine 0o5410000550000000#48).setIx .b1 0o5) pointer = some (0o1001#15, .upper) := by decide

/-- 2.5.1 -/
theorem test_sst :
    seen (holding (((machine 0o4000020050000000#48).setA 0o7070707070707070).setQ 0o77777777) 0o200 0o7700770077007700) (·.a) =
      some 0o7770777077707770#48 := by decide

/-- 2.5.2 -/
theorem test_scl :
    seen (holding (((machine 0o4100020050000000#48).setA 0o7070707070707070).setQ 0o77777777) 0o200 0o7700770077007700) (·.a) =
      some 0o0070007000700070#48 := by decide

/-- 2.5.3 -/
theorem test_scm :
    seen (holding (((machine 0o4200020050000000#48).setA 0o7070707070707070).setQ 0o77777777) 0o200 0o7700770077007700) (·.a) =
      some 0o0770077007700770#48 := by decide

/-- 2.5.4 -/
theorem test_ssu :
    seen (holding (((machine 0o4300020050000000#48).setA 0o7070707070707070).setQ 0o77777777) 0o200 0o7700770077007700) (·.a) =
      some 0o7070707077007700#48 := by decide

/-- 2.5.5 -/
theorem test_ldl :
    seen (holding (((machine 0o4400020050000000#48).setA 0o7070707070707070).setQ 0o77777777) 0o200 0o7700770077007700) (·.a) =
      some 0o77007700#48 := by decide

/-- 2.5.6 -/
theorem test_adl :
    seen (holding (((machine 0o4500020050000000#48).setA 0o1).setQ 0o77) 0o200 0o1234) (·.a) =
      some 0o35#48 := by decide

/-- 2.5.7 -/
theorem test_sbl :
    seen (holding (((machine 0o4600020050000000#48).setA 0o1).setQ 0o77) 0o200 0o1234) (·.a) =
      some 0o7777777777777744#48 := by decide

/-- 2.5.8 -/
theorem test_stl :
    seen (holding (((machine 0o4700020050000000#48).setA 0o7070707070707070).setQ 0o77777777) 0o200 0o7700770077007700) (·.mem.readWord 0o200) =
      some 0o70707070#48 := by decide

/-- 2.6.2 -/
theorem test_ars :
    seen ((machine 0o0100000350000000#48).setA 0o7000000000000005) (·.a) = some 0o7700000000000000#48 := by decide

/-- 2.6.6 -/
theorem test_ars_fault :
    seen ((machine 0o0100020350000000#48).setA 0o7000000000000005) (·.intr) = some 0o2#48 := by decide

/-- 2.6.9 -/
theorem test_qrs :
    seen ((machine 0o0200000650000000#48).setQ 0o7000000000000005) (·.q) = some 0o7770000000000000#48 := by decide

/-- 2.6.10 -/
theorem test_lrs :
    seen (((machine 0o0300000650000000#48).setA 0o0123456701234567).setQ 0o7000000000000005) (fun t => (t.a, t.q)) =
      some (0o0001234567012345#48, 0o6770000000000000#48) := by decide

/-- 2.6.12 -/
theorem test_als : seen ((machine 0o0500000350000000#48).setA 0o7000000000000005) (·.a) = some 0o57#48 := by decide

/-- 2.6.15 -/
theorem test_qls : seen ((machine 0o0600000150000000#48).setQ 0o4000000000000000) (·.q) = some 0o1#48 := by decide

/-- 2.6.16 -/
theorem test_lls :
    seen (((machine 0o0700000350000000#48).setA 0o7000000000000005).setQ 0o0123456701234567) (fun t => (t.a, t.q)) =
      some (0o50#48, 0o1234567012345677#48) := by decide

/-- 2.6.18 -/
theorem test_sca :
    seen ((machine 0o3410006050000000#48).setA 0o1) (fun t => (t.a, t.ix .b1)) =
      some (0o2000000000000000#48, 0o2#15) := by decide

/-- 2.6.24 -/
theorem test_scq :
    seen ((machine 0o3520014050000000#48).setQ 0o1) (fun t => (t.a, t.ix .b2)) =
      some (0o2000000000000000#48, 0o2#15) := by decide

/-- 2.7.1 -/
theorem test_rad :
    seen (holding ((machine 0o7000020050000000#48).setA 0o5) 0o200 0o7) (fun t => (t.a, t.mem.readWord 0o200)) =
      some (0o14#48, 0o14#48) := by decide

/-- 2.7.2 -/
theorem test_rsb :
    seen (holding ((machine 0o7100020050000000#48).setA 0o5) 0o200 0o7) (fun t => (t.a, t.mem.readWord 0o200)) =
      some (0o2#48, 0o2#48) := by decide

/-- 2.7.3 -/
theorem test_rao :
    seen (holding (machine 0o7200020050000000#48) 0o200 0o7777777777777776) (fun t => (t.a, t.mem.readWord 0o200)) =
      some (0o0#48, 0o0#48) := by decide

/-- 2.7.4 -/
theorem test_rso :
    seen (machine 0o7300020050000000#48) (·.mem.readWord 0o200) = some 0o7777777777777776#48 := by decide

/-- 2.7.6 -/
theorem test_ssk :
    seen (holding (machine 0o3600020050000000#48) 0o200 0o7000000000000005) pointer =
      some (0o1001#15, .upper) := by decide

/-- 2.7.9 -/
theorem test_ssh :
    seen (holding (machine 0o3700020050000000#48) 0o200 0o7000000000000005) (fun t => (t.mem.readWord 0o200, pointer t)) =
      some (0o6000000000000013#48, (0o1001#15, .upper)) := by decide

/-- 2.8.1 -/
theorem test_eqs :
    seen (((holding (holding (holding (holding (machine 0o6410030050000000#48) 0o300 0o12) 0o301 0o7777777777777774) 0o303 0o7) 0o304 0o144).setIx .b1 0o5).setA 0o7) (fun t => (t.ix .b1, pointer t)) =
      some (0o3#15, (0o1001#15, .upper)) := by decide

/-- 2.8.7 -/
theorem test_ths :
    seen (((holding (holding (holding (holding (machine 0o6510030050000000#48) 0o300 0o12) 0o301 0o7777777777777774) 0o303 0o7) 0o304 0o144).setIx .b1 0o5).setA 0o7) (·.ix .b1) =
      some 0o4#15 := by decide

/-- 2.8.11 -/
theorem test_meq :
    seen ((((holding (holding (holding (holding (machine 0o6610030050000000#48) 0o300 0o12) 0o301 0o7777777777777774) 0o303 0o7) 0o304 0o144).setIx .b1 0o5).setQ 0o74).setA 0o4) (·.ix .b1) =
      some 0o3#15 := by decide

/-- 2.8.12 -/
theorem test_mth :
    seen ((((holding (holding (holding (holding (machine 0o6710030050000000#48) 0o300 0o12) 0o301 0o7777777777777774) 0o303 0o7) 0o304 0o144).setIx .b1 0o4).setQ 0o17).setA 0o10) (·.ix .b1) =
      some 0o1#15 := by decide

/-- 2.9.5: both zeros are zero -/
theorem test_ajp :
    seen ((machine 0o2200200050000000#48).setA 0o7777777777777777) pointer = some (0o2000#15, .upper) := by decide

/-- 2.9.17 -/
theorem test_arj :
    seen (holding (machine 0o2240200050000000#48) 0o2000 0o7500000050000000) (fun t => (t.mem.readWord 0o2000, pointer t)) =
      some (0o7500100150000000#48, (0o2000#15, .lower)) := by decide

/-- 2.9.20 -/
theorem test_qjp :
    seen ((machine 0o2330200050000000#48).setQ 0o7777777777777772) pointer = some (0o2000#15, .upper) := by decide

/-- 2.9.22 -/
theorem test_qrj :
    seen ((machine 0o2360200050000000#48).setQ 0o5) (·.mem.readWord 0o2000) =
      some 0o0000100100000000#48 := by decide

/-- 2.9.23 -/
theorem test_ijp :
    seen ((machine 0o5510200050000000#48).setIx .b1 0o3) (fun t => (t.ix .b1, pointer t)) =
      some (0o2#15, (0o2000#15, .upper)) := by decide

/-- 2.9.24 -/
theorem test_ijp_zero : seen (machine 0o5510200050000000#48) pointer = some (0o1000#15, .lower) := by decide

/-- 2.9.28 -/
theorem test_slj : seen (machine 0o7520200050000000#48) pointer = some (0o1000#15, .lower) := by decide

/-- 2.9.30 -/
theorem test_rtj :
    seen (holding (machine 0o7540200050000000#48) 0o2000 0o7507777712000300) (fun t => (t.mem.readWord 0o2000, pointer t)) =
      some (0o7500100112000300#48, (0o2000#15, .lower)) := by decide

/-- 2.9.32 -/
theorem test_sls :
    seen (machine 0o7600200050000000#48) (fun t => (t.running, t.slsStopped, pointer t)) =
      some (false, true, (0o1000#15, .upper)) := by decide

/-- 2.9.35 -/
theorem test_srj :
    seen (machine 0o7650200050000000#48) (fun t => (t.mem.readWord 0o2000, t.running, pointer t)) =
      some (0o0000100100000000#48, true, (0o2000#15, .lower)) := by decide

/-- 2.10.3 -/
theorem test_ldc :
    seen (((holding (machine 0o6301000650000200#48) 0o200 0o0102030405060710).setIx .b1 0o14).setA 0o7777777777777777) (fun t => (t.a, pointer t)) =
      some (0o6#48, (0o1001#15, .upper)) := by decide

/-- 2.10.10 -/
theorem test_stc :
    seen (((holding (machine 0o6301000650500200#48) 0o200 0o0102030405060710).setIx .b1 0o22).setA 0o1234567012345677) (·.mem.readWord 0o200) =
      some 0o0102030477060710#48 := by decide

/-- 2.11.3 -/
theorem test_inf :
    seen (((machine 0o7700043250000000#48).setIntr 0o76).setMask 0o10) (fun t => (t.intr, t.mask)) =
      some (0o66#48, 0o10#48) := by decide

/-- 2.11.9 -/
theorem test_inf_arms :
    seen ((machine 0o7700050050000000#48).setIntr 0o0400000000000000) (fun t => (t.intr, t.mask, t.ctl.timeArmed)) =
      some (0o0#48, 0o0400000000000000#48, true) := by decide

/-- 2.11.20 -/
theorem test_sen : seen (machine 0o7730022150000000#48) pointer = some (0o1001#15, .upper) := by decide

/-- 2.11.23 -/
theorem test_cis :
    seen (((machine 0o7720000050000000#48).setIntr 0o0100000000000010).setMask 0o10) (·.a) =
      some 0o0100000000000010#48 := by decide

/-- 2.11.24 -/
theorem test_cpr :
    seen (((machine 0o7740000050000000#48).setIntr 0o0100000000000010).setMask 0o10) (·.a) =
      some 0o10#48 := by decide

/-- 2.11.25 -/
theorem test_eub : seen (machine 0o7754000050000000#48) (·.bu) = some 0o200#8 := by decide

/-- 2.11.25 -/
theorem test_elb : seen (machine 0o7760400050000000#48) (·.bl) = some 0o020#8 := by decide

/-- 2.11.26 -/
theorem test_eub_illegal :
    seen (((holding (machine 0o7754000050000000#48) 0o20 0o7500000000000000).setMask 0o0100000000000000).setCtl { IntCtl.clear with active := true }) (fun t => (t.bu, t.mem.readWord 0o20, pointer t)) =
      some (0o0#8, 0o7500100100000000#48, (0o20#15, .lower)) := by decide

/-- 2.11.28 -/
theorem test_aug :
    seen ((machine 0o7712000012000200#48).setIx .b2 0o5) (fun t => (field t.u 0 24, pointer t)) =
      some (0o12000205#24, (0o1000#15, .lower)) := by decide

/-- 2.13.2 -/
theorem test_conn_silent : seen (machine 0o7402000000004000#48) pointer = some (0o20000#15, .upper) := by decide

/-- 2.13.6 -/
theorem test_extf_unconnected :
    seen (machine 0o7411000400000002#48) pointer = some (0o10004#15, .upper) := by decide

/-- 2.13.10 -/
theorem test_begr :
    seen ((holding (machine 0o7421001601030001#48) 0o30001 0o0000030000000200).setCfg { Config.standard with channels := 2 }) (fun t => (t.chan .c1).active && decide ((t.chan .c1).wc = 0o300)) =
      some true := by decide

/-- 2.13.8 -/
theorem test_begw :
    seen (holding (machine 0o7431000400030000#48) 0o30000 0o1000010000000100) (fun t => ((t.chan .c0).wc, (t.chan .c0).dir)) =
      some (0o100#15, .write) := by decide

/-- 2.13.11, with no status line up -/
theorem test_copy :
    seen ((machine 0o7440000000000000#48).setChan .c0 { Channel.clear with wc := 0o77, ca := 0o101 }) (·.a) =
      some 0o0000007700000101#48 := by decide

/-- 2.13.13 -/
theorem test_ccwd :
    seen (((machine 0o7460000000000000#48).setChan .c0 { Channel.clear with wc := 0o77, ca := 0o101 }).setA 0o0000002000001000) (fun t => (t.a, (t.chan .c0).wc)) =
      some (0o0000007700000101#48, 0o20#15) := by decide

/-- 2.13.15 -/
theorem test_clch :
    seen ((machine 0o7450000000000000#48).setChan .c0 { Channel.clear with wc := 0o77, active := true }) (fun t => (t.intr, (t.chan .c0).active, (t.chan .c0).wc)) =
      some (0o2000#48, false, 0o0#15) := by decide

/-- 2.4.33 -/
theorem test_fad_without_option :
    seen (machine 0o3000020050000000#48) (fun t => (t.mem.readWord 0o30, t.ctl.exit2, pointer t)) =
      some (0o0000100000000000#48, true, (0o30#15, .lower)) := by decide

/-! ### The hypotheses of the statements can be met -/

/-- The machine running at the upper half of step 01000. -/
def base : State := machine 0o5000000050000000#48

/-- The same with the lower half pending in U. -/
def low : State := ((base.setU 0o5000000050000000#48).setHalf .lower).setUHeld true

/-- The same with bounds checking in effect: 00200 to 00377 and no more may be written. The pointer is in bounds. -/
def bounded : State :=
  ((((base.setCtl { IntCtl.clear with active := true }).setMask (bitWord 42)).setBl 1).setBu 2).setP 0o200

/-- The state that an instruction leads to. -/
def answer (i : Instr) (s : State) : State :=
  match exec i s with
  | .next t => t
  | .fault _ => s
  | .refused _ => s

theorem base_ready : base.Ready := ⟨rfl, rfl⟩
theorem low_ready : low.Ready := ⟨rfl, rfl⟩
theorem bounded_ready : bounded.Ready := ⟨rfl, rfl⟩

/-- Storage that names index register 3 and address 00200 at 00100, reached through 00101. -/
def chained : State := holding (holding base 0o100 0o300200) 0o101 0o700100

theorem chained_ready : chained.Ready := ⟨rfl, rfl⟩

theorem eff_zero (m : Addr) (s : State) : Effective .zero m s m := effective_of_resolves (resolve_zero m s)
theorem res_zero (m : Addr) (s : State) : Resolves .zero m s none m := resolve_zero m s
theorem res_ix (r : Ix) (m : Addr) (s : State) : Resolves (.ix r) m s (some r) m := resolve_ix r m s

theorem chained_resolves : Resolves .seven 0o101 chained (some .b3) 0o200 := by
  show resolveIn (32767 + 1 + 1) .seven 0o101 chained = _
  rw [resolveIn_seven rfl rfl, show Desig.ofBits (field (chained.mem.readWord 0o101) 15 3) = .seven from by decide,
    show lowerAddr (chained.mem.readWord 0o101) = 0o100 from by decide, resolveIn_seven rfl rfl,
    show Desig.ofBits (field (chained.mem.readWord 0o100) 15 3) = .ix .b3 from by decide,
    show lowerAddr (chained.mem.readWord 0o100) = 0o200 from by decide, resolveIn_ix]

theorem chained_effective : Effective .seven 0o101 chained 0o200 := effective_of_resolves chained_resolves

/-- The first address above and the last below the bounds are out of bounds, the first and the last between them not. -/
theorem test_bounds : bounded.outOfBounds 0o177 = true ∧ bounded.outOfBounds 0o200 = false ∧
    bounded.outOfBounds 0o377 = false ∧ bounded.outOfBounds 0o400 = true := by decide

theorem test_witness_EncodeInvertsDecode :
    decodeAt 0o1210021050000000 .lower = .instr (.eni .zero 0) ∧
    decodeAt 0o1210021050000000 .upper = .instr (.lda (.ix .b1) 0o210) ∧
    decodeAt 0o7440000001000000 .upper = .instr (.copy 1) := by decide

theorem test_witness_StepRunsInstruction :
    (low.env = [] ∧ low.running = true ∧ low.uHeld = true ∧ decodeAt low.u low.half = .instr (.eni .zero 0)) ∧
    (∀ h, let s := base.setHalf h
      s.env = [] ∧ s.running = true ∧ s.uHeld = false ∧ s.inter = [] ∧ s.outOfBounds s.p = false ∧
      s.installed s.p = true ∧ decodeAt (s.mem.readWord s.p) s.half = .instr (.eni .zero 0)) := by
  refine ⟨by decide, fun h => ?_⟩
  cases h <;> decide

theorem test_witness_SequentialFlow :
    base.half = .upper ∧ low.half = .lower ∧ (base.setP 0o77777).p = 0o77777 := by decide

/-- From storage in either half, and a lower half that executes from U. -/
theorem test_witness_IllegalCodeTrap :
    (∀ h, let s := (machine 0o2600000027000000#48).setHalf h
      s.env = [] ∧ s.running = true ∧ s.uHeld = false ∧ s.Ready ∧ s.outOfBounds s.p = false ∧
      s.installed s.p = true ∧ decodeAt (s.mem.readWord s.p) s.half = .illegal ∧
      (s.setU (s.mem.readWord s.p)).exitCheck.ctl = s.ctl) ∧
    (let s := low.setU 0o5000000027000000;
      s.env = [] ∧ s.running = true ∧ s.Ready ∧ s.uHeld = true ∧ decodeAt s.u s.half = .illegal) := by
  refine ⟨fun h => ?_, rfl, rfl, ⟨rfl, rfl⟩, rfl, by decide⟩
  cases h <;> exact ⟨rfl, rfl, rfl, ⟨rfl, rfl⟩, rfl, rfl, by decide, rfl⟩

theorem test_witness_OutOfBoundsFetch :
    let s := bounded.setP 0o177
    s.env = [] ∧ s.running = true ∧ s.uHeld = false ∧ s.inter = [] ∧ s.outOfBounds s.p = true := by decide

theorem test_witness_OnesComplementAdder :
    (ocVal (0o3777777777777776 : Word) + ocVal (1 : Word)).natAbs < 2 ^ 47 ∧
    (ocVal (0o4000000000000001 : Word) - ocVal (1 : Word)).natAbs < 2 ^ 47 ∧
    (ocVal (0o37776 : Addr) + ocVal (1 : Addr)).natAbs < 2 ^ 14 ∧
    (ocVal (0o40001 : Addr) - ocVal (1 : Addr)).natAbs < 2 ^ 14 := by decide

theorem test_witness_IndirectAddressing :
    chained.inter = [] ∧ Resolves .seven 0o101 chained (some .b3) 0o200 :=
  ⟨rfl, chained_resolves⟩

theorem test_witness_StorageReadAfterWrite :
    base.mem.wf = true ∧ (0o1000 : Addr) ≠ 0o77777 ∧ outsideWord 0o1000 (byteKey 0o1000 5 + 1) ∧ outsideWord 0o1 5 := by
  refine ⟨by decide, by decide, Or.inr ?_, Or.inl ?_⟩ <;> decide

theorem test_witness_CategoryOneEntry :
    let s := (bounded.setIntr (bitWord 42))
    (s.ctl.active = true ∧ s.ctl.lock1 = false ∧ s.interrupt &&& s.mask ≠ 0) ∧
    ¬(base.ctl.active = true ∧ base.ctl.lock1 = false ∧ base.interrupt &&& base.mask ≠ 0) := by decide

/-- A machine without the floating point option. -/
theorem test_witness_CategoryTwoEntry :
    (base.setCfg { Config.standard with hasFpo := false }).Ready ∧
    (base.setCfg { Config.standard with hasFpo := false }).cfg.hasFpo = false := ⟨⟨rfl, rfl⟩, rfl⟩

/-- A jump at 00007, interrupted and about to return. -/
def interrupted : State := holding base 0o7 0o7500000050000000
/-- The routine of `interrupted` at its exit. -/
def returning : State := ((interrupted.enter .one).setHalf .upper).setUHeld false

/-- The same for the Category II interrupt of an addition. -/
def trapped : State := holding base 0o30 0o7500000050000000
/-- Its routine at its exit. -/
def returningTwo : State := ((trapped.enter (.two .add)).setHalf .upper).setUHeld false

theorem test_witness_InterruptRoundTrip :
    (interrupted.mem.wf = true ∧ field (interrupted.mem.readWord 0o7) 39 9 = 0o750 ∧
      returning.mem.readWord 0o7 = (interrupted.enter .one).mem.readWord 0o7 ∧
      returning.ctl.exit1 = (interrupted.enter .one).ctl.exit1 ∧ returning.env = [] ∧ returning.inter = [] ∧
      returning.running = true ∧ returning.uHeld = false ∧ returning.p = 0o7 ∧ returning.half = .upper ∧
      returning.ctl.mode1 = true ∧ returning.ctl.lock1 = true ∧
      (returning.setCtl { returning.ctl with lock1 := false }).outOfBounds interrupted.p = false) ∧
    (trapped.mem.wf = true ∧ field (trapped.mem.readWord (fixedLocation .add)) 39 9 = 0o750 ∧
      returningTwo.mem.readWord (fixedLocation .add) =
        (trapped.enter (.two .add)).mem.readWord (fixedLocation .add) ∧
      returningTwo.ctl.exit2 = (trapped.enter (.two .add)).ctl.exit2 ∧ returningTwo.env = [] ∧
      returningTwo.inter = [] ∧ returningTwo.running = true ∧ returningTwo.uHeld = false ∧
      returningTwo.half = .upper ∧ returningTwo.ctl.cat2Addr = fixedLocation .add ∧
      returningTwo.p = fixedLocation .add ∧ returningTwo.ctl.mode2 = true ∧
      returningTwo.outOfBounds (fixedLocation .add) = false ∧ returningTwo.outOfBounds trapped.advance.p = false) := by
  decide

/-- A step at an interrupt exit point, with bounds checking in effect. -/
def atExitPoint : State := bounded.setCtl { bounded.ctl with exiting := true }

/-- Each condition of a jump met and not met, a target on each side of a bound, a stop, a register at 0, at 1 and at
77777, and an instruction that goes on elsewhere. -/
theorem test_witness_ExitPointNeedsJump :
    let s := atExitPoint
    s.atExit = true ∧ s.inter = [] ∧ s.outOfBounds 0o377 = false ∧ s.outOfBounds 0o400 = true ∧
    (s.a = 0 ∧ (s.setA 1).a ≠ 0 ∧ (s.setA 1).a ≠ BitVec.allOnes 48 ∧ (s.setA 1).a.getLsbD 47 = false ∧
      (s.setA (BitVec.allOnes 48)).a.getLsbD 47 = true) ∧
    (s.stopCond .always = true ∧ s.stopCond .sw1 = false) ∧
    (Resolves .zero 0o377 s none 0o377 ∧ Resolves (.ix .b1) 0o377 s (some .b1) 0o377 ∧ s.ix .b1 = 0 ∧
      (s.setIx .b1 1).ix .b1 = 1 ∧ (s.setIx .b1 0o77777).ix .b1 = 0o77777) ∧
    (let t := s.setCtl { s.ctl with exiting := false };
      exec .iaq t = .next (answer .iaq t)) :=
  ⟨rfl, rfl, by decide, by decide, by decide, by decide, ⟨res_zero _ _, res_ix _ _ _, rfl, rfl, rfl⟩, rfl⟩

theorem test_witness_InterruptBitsSticky :
    let s := base.setIntr (bitWord 46)
    exec (.clch 0) s = .next (answer (.clch 0) s) ∧ (46 : Nat) ≠ 20 + (0 : BitVec 3).toNat ∧
    s.intr.getLsbD 46 = true := ⟨rfl, by decide, by decide⟩

theorem test_witness_BoundsProtectStorage :
    bounded.mem.wf = true ∧ bounded.inter = [] ∧ bounded.outOfBounds 0o177 = true ∧ 0o177 ∉ fixedLocations ∧
    exec (.rtj .always 0o200) bounded = .next (answer (.rtj .always 0o200) bounded) :=
  ⟨by decide, rfl, by decide, by decide, rfl⟩

theorem test_witness_RegisterFrame :
    let s := base.setQ 5
    exec .iaq s = .next (answer .iaq s) ∧ (answer .iaq s).a ≠ s.a ∧ (answer .iaq s).q ≠ s.q :=
  ⟨rfl, by decide, by decide⟩

theorem test_witness_StepKeepsInvariant : State.reset.Inv ∧ step State.reset = .next State.reset := by
  refine ⟨⟨rfl, ?_, ?_, ?_, ?_, ?_⟩, rfl⟩ <;> decide

/-- An idle channel, an active one, and a channel that is not installed; a bit of neither kind. -/
theorem test_witness_ExternalMasterClear :
    base.autoLoading = none ∧ base.chanInstalled .c0 = true ∧ base.chanInstalled .c3 = false ∧
    (base.chan .c0).active = false ∧
    ((base.setChan .c0 { Channel.clear with active := true, dir := .write }).chan .c0).active = true ∧
    (∀ x : ChanId, (46 : Nat) ≠ 10 + x.index ∧ (46 : Nat) ≠ 20 + x.index) := by
  refine ⟨rfl, rfl, rfl, rfl, rfl, fun x => ?_⟩
  cases x <;> decide

theorem test_witness_RestartSwitch :
    let s := base.setEnv [.restart]
    s.env = [Event.restart] ∧ (s.console.systemActive = true ∨ s.console.maintenance = true) ∧ s.mem.wf = true ∧
    s.chanInstalled .c0 = true := by decide

theorem test_witness_ManualAndTimeInterrupts :
    (base.setEnv [.manualInterrupt]).env = [Event.manualInterrupt] ∧ base.console.systemActive = true ∧
    (base.setEnv [.lineTick]).env = [Event.lineTick] := by decide

theorem test_witness_InterchangeAQ : base.Ready := base_ready

theorem test_witness_LoadRegister :
    chained.Ready ∧ Effective .seven 0o101 chained 0o200 ∧ chained.installed 0o200 = true :=
  ⟨chained_ready, chained_effective, rfl⟩

/-- Both sides of a bound, for the statements about a store. -/
theorem test_witness_StoreRegister :
    bounded.Ready ∧ bounded.mem.wf = true ∧
    (Effective .zero 0o177 bounded 0o177 ∧ bounded.outOfBounds 0o177 = true) ∧
    (Effective .zero 0o200 bounded 0o200 ∧ bounded.outOfBounds 0o200 = false ∧ bounded.installed 0o200 = true) :=
  ⟨bounded_ready, by decide, ⟨eff_zero _ _, by decide⟩, ⟨eff_zero _ _, by decide, rfl⟩⟩

theorem test_witness_LoadIndex :
    chained.Ready ∧ chained.installed 0o200 = true ∧ Resolves .seven 0o101 chained (some .b3) 0o200 ∧
    Resolves .zero 0o200 chained none 0o200 :=
  ⟨chained_ready, rfl, chained_resolves, res_zero _ _⟩

theorem test_witness_StoreAddressPortion :
    bounded.Ready ∧ bounded.mem.wf = true ∧ Resolves (.ix .b1) 0o377 bounded (some .b1) 0o377 ∧
    Resolves .zero 0o400 bounded none 0o400 ∧ Effective .zero 0o377 bounded 0o377 ∧
    bounded.outOfBounds 0o377 = false ∧ bounded.installed 0o377 = true ∧ bounded.outOfBounds 0o400 = true :=
  ⟨bounded_ready, by decide, res_ix _ _ _, res_zero _ _, eff_zero _ _, by decide, rfl, by decide⟩

theorem test_witness_EnterRegister :
    base.Ready ∧ Effective .zero 0o77777 base 0o77777 ∧ Resolves (.ix .b6) 0o77777 base (some .b6) 0o77777 ∧
    Resolves .zero 0 base none 0 :=
  ⟨base_ready, eff_zero _ _, res_ix _ _ _, res_zero _ _⟩

theorem test_witness_TransmitToIndex : base.Ready := base_ready

/-- The largest sum in range, for every form: A, Q and the word at 00200 are chosen so. -/
def nearOverflow : State := holding (((base.setA 0o3777777777777776).setQ 1)) 0o200 1

theorem test_witness_AddWithinRange :
    nearOverflow.Ready ∧ Effective .zero 0o200 nearOverflow 0o200 ∧ nearOverflow.installed 0o200 = true ∧
    Effective .zero 1 nearOverflow 1 ∧ nearOverflow.mem.readWord 0o200 = 1 ∧
    (ocVal nearOverflow.a + 1 * ocVal (1 : Word)).natAbs < 2 ^ 47 ∧
    (ocVal nearOverflow.a + (-1) * ocVal (1 : Word)).natAbs < 2 ^ 47 :=
  ⟨⟨rfl, rfl⟩, eff_zero _ _, rfl, eff_zero _ _, by decide, by decide, by decide⟩

/-- One past the range, each way. -/
theorem test_witness_AddOverflow :
    let s := nearOverflow.setA 0o3777777777777777
    let t := nearOverflow.setA 0o4000000000000000
    s.Ready ∧ t.Ready ∧ Effective .zero 0o200 s 0o200 ∧ Effective .zero 0o200 t 0o200 ∧ s.installed 0o200 = true ∧
    2 ^ 47 ≤ (ocVal s.a + 1 * ocVal (1 : Word)).natAbs ∧ 2 ^ 47 ≤ (ocVal t.a + (-1) * ocVal (1 : Word)).natAbs :=
  ⟨⟨rfl, rfl⟩, ⟨rfl, rfl⟩, eff_zero _ _, eff_zero _ _, rfl, by decide, by decide⟩

theorem test_witness_MultiplyInteger :
    nearOverflow.Ready ∧ Effective .zero 0o200 nearOverflow 0o200 ∧ nearOverflow.installed 0o200 = true :=
  ⟨⟨rfl, rfl⟩, eff_zero _ _, rfl⟩

/-- The largest quotient in range: Q 0 and A the largest number, divided by one. -/
def dividing : State := holding (base.setA 0o3777777777777777) 0o200 1

theorem test_witness_DivideInteger :
    dividing.Ready ∧ Effective .zero 0o200 dividing 0o200 ∧ dividing.installed 0o200 = true ∧
    ocVal (dividing.mem.readWord 0o200) ≠ 0 ∧
    ((ocVal (dividing.q ++ dividing.a : BitVec 96)).tdiv (ocVal (dividing.mem.readWord 0o200))).natAbs < 2 ^ 47 :=
  ⟨⟨rfl, rfl⟩, eff_zero _ _, rfl, by decide, by decide⟩

/-- A zero divisor, and the smallest quotient out of range. -/
theorem test_witness_DivideFault :
    dividing.Ready ∧ Effective .zero 0o300 dividing 0o300 ∧ dividing.installed 0o300 = true ∧
    ocVal (dividing.mem.readWord 0o300) = 0 ∧
    2 ^ 47 ≤ ((ocVal (0#48 ++ 0o4000000000000000#48 : BitVec 96)).tdiv (ocVal (1 : Word))).natAbs :=
  ⟨⟨rfl, rfl⟩, eff_zero _ _, rfl, by decide, by decide⟩

theorem test_witness_FloatingPoint :
    let s := base.setCfg { Config.standard with hasFpo := true }
    s.Ready ∧ s.cfg.hasFpo = true ∧ Effective .zero 0o200 s 0o200 ∧ s.installed 0o200 = true :=
  ⟨⟨rfl, rfl⟩, rfl, eff_zero _ _, rfl⟩

theorem test_witness_IndexArithmetic :
    base.Ready ∧ Resolves (.ix .b1) 0 base (some .b1) 0 ∧ base.ix .b1 = 0 ∧
    Resolves (.ix .b1) 0o77777 base (some .b1) 0o77777 ∧ base.ix .b1 ≠ 0o77777 ∧
    Resolves .zero 0 base none 0 ∧ Resolves .zero 1 base none 1 :=
  ⟨base_ready, res_ix _ _ _, rfl, res_ix _ _ _, by decide, res_zero _ _, res_zero _ _⟩

theorem test_witness_LogicalOps :
    chained.Ready ∧ Effective .seven 0o101 chained 0o200 ∧ chained.installed 0o200 = true :=
  ⟨chained_ready, chained_effective, rfl⟩

theorem test_witness_Shifts :
    base.Ready ∧ Effective .zero 0 base 0 ∧ Effective .zero 0o177 base 0o177 ∧ Effective .zero 0o200 base 0o200 :=
  ⟨base_ready, eff_zero _ _, eff_zero _ _, eff_zero _ _⟩

theorem test_witness_Scale :
    base.Ready ∧ Resolves (.ix .b1) 0o177 base (some .b1) 0o177 ∧ Resolves .zero 0o200 base none 0o200 :=
  ⟨base_ready, res_ix _ _ _, res_zero _ _⟩

theorem test_witness_ReplaceOps :
    bounded.Ready ∧ bounded.mem.wf = true ∧
    (Effective .zero 0o177 bounded 0o177 ∧ bounded.installed 0o177 = true ∧ bounded.outOfBounds 0o177 = true) ∧
    (Effective .zero 0o200 bounded 0o200 ∧ bounded.installed 0o200 = true ∧ bounded.outOfBounds 0o200 = false) :=
  ⟨bounded_ready, by decide, ⟨eff_zero _ _, rfl, by decide⟩, ⟨eff_zero _ _, rfl, by decide⟩⟩

theorem test_witness_StorageTests :
    bounded.Ready ∧ bounded.mem.wf = true ∧
    (Effective .zero 0o400 bounded 0o400 ∧ bounded.installed 0o400 = true ∧ bounded.outOfBounds 0o400 = true) ∧
    (Effective .zero 0o377 bounded 0o377 ∧ bounded.installed 0o377 = true ∧ bounded.outOfBounds 0o377 = false) :=
  ⟨bounded_ready, by decide, ⟨eff_zero _ _, rfl, by decide⟩, ⟨eff_zero _ _, rfl, by decide⟩⟩

/-- A list of two words at 00300, the first equal to A. -/
def listed : State := holding ((base.setIx .b1 2).setA 7) 0o300 7

/-- Each clause of the searches: no register, with and without a hit; a hit at the last place looked at and at the
first; no hit, and no word to examine; 77777. -/
theorem test_witness_Searches :
    listed.Ready ∧
    (Resolves .zero 0o300 listed none 0o300 ∧ listed.installed 0o300 = true ∧ listed.mem.readWord 0o300 = listed.a) ∧
    (Resolves (.ix .b1) 0o300 listed (some .b1) 0o300 ∧ listed.ix .b1 ≠ 0o77777 ∧ 0 < (listed.ix .b1).toNat ∧
      (∀ k, 0 ≤ k → k < (listed.ix .b1).toNat → listed.installed (ocadd 0o300 (BitVec.ofNat 15 k)) = true) ∧
      listed.mem.readWord (ocadd 0o300 (BitVec.ofNat 15 0)) = listed.a ∧
      (∀ k, 0 < k → k < (listed.ix .b1).toNat →
        ¬(listed.mem.readWord (ocadd 0o300 (BitVec.ofNat 15 k)) = listed.a ∨
          (ocVal (listed.mem.readWord (ocadd 0o300 (BitVec.ofNat 15 k))) = 0 ∧ ocVal listed.a = 0)))) ∧
    (Resolves (.ix .b2) 0o300 listed (some .b2) 0o300 ∧ (listed.ix .b2).toNat = 0) ∧
    ((listed.setIx .b3 0o77777).ix .b3 = 0o77777) := by
  refine ⟨⟨rfl, rfl⟩, ⟨res_zero _ _, rfl, by decide⟩,
    ⟨res_ix _ _ _, by decide, by decide, fun _ _ _ => rfl, by decide, ?_⟩, ⟨res_ix _ _ _, rfl⟩, rfl⟩
  intro k h1 h2
  have h3 : k < 2 := h2
  have h4 : k = 1 := by omega
  subst h4
  decide

theorem test_witness_NormalJumps :
    bounded.Ready ∧ bounded.outOfBounds 0o377 = false ∧ bounded.outOfBounds 0o400 = true ∧
    (bounded.a = 0 ∨ bounded.a = BitVec.allOnes 48) ∧ ¬(1#48 = 0 ∨ 1#48 = BitVec.allOnes 48) ∧
    bounded.console.jump1 = false ∧
    (bounded.setConsole { Console.initial with jump1 := true, jump2 := true, jump3 := true }).console.jump3 = true :=
  ⟨bounded_ready, by decide, by decide, by decide, by decide, rfl, rfl⟩

theorem test_witness_ReturnJumps :
    bounded.Ready ∧ bounded.mem.wf = true ∧ bounded.outOfBounds 0o200 = false ∧ bounded.installed 0o200 = true ∧
    bounded.outOfBounds 0o177 = true ∧ bounded.a.getLsbD 47 = false ∧
    (bounded.setA (BitVec.allOnes 48)).a.getLsbD 47 = true :=
  ⟨bounded_ready, by decide, by decide, rfl, by decide, rfl, by decide⟩

theorem test_witness_IndexJump :
    let s := bounded.setIx .b1 1
    s.Ready ∧ Resolves .zero 0o200 s none 0o200 ∧ Resolves (.ix .b1) 0o200 s (some .b1) 0o200 ∧ s.ix .b1 ≠ 0 ∧
    s.ix .b1 ≠ 0o77777 ∧ s.outOfBounds 0o200 = false ∧ s.outOfBounds 0o177 = true ∧
    Resolves (.ix .b2) 0o200 s (some .b2) 0o200 ∧ s.ix .b2 = 0 ∧ (s.setIx .b3 0o77777).ix .b3 = 0o77777 :=
  ⟨⟨rfl, rfl⟩, res_zero _ _, res_ix _ _ _, by decide, by decide, by decide, by decide, res_ix _ _ _, rfl, rfl⟩

/-- Stopped inside an SLS or an SRJ, with Go pressed. -/
theorem test_witness_StopAndGo :
    let s := ((base.setRunning false).setSlsStopped true).setEnv [.go]
    s.env = [Event.go] ∧ (s.console.systemActive = true ∨ s.console.maintenance = true) ∧ s.slsStopped = true ∧
    decodeAt (s.setU 0o7600200050000000).u s.half = .instr (.sls .always 0o2000) ∧
    decodeAt (s.setU 0o7640200050000000).u s.half = .instr (.srj .always 0o2000) ∧ base.slsStopped = false := by decide

/-- The lowest and the highest position of a character, and none. -/
theorem test_witness_Characters :
    bounded.Ready ∧ bounded.mem.wf = true ∧ Effective .zero 0o377 bounded 0o377 ∧ Effective .zero 0o400 bounded 0o400 ∧
    bounded.installed 0o377 = true ∧ bounded.outOfBounds 0o377 = false ∧ bounded.outOfBounds 0o400 = true ∧
    bounded.ix .b1 = BitVec.ofNat 15 (6 * 0) ∧ (bounded.setIx .b1 42).ix .b1 = BitVec.ofNat 15 (6 * 7) ∧
    (∀ k, k < 8 → (bounded.setIx .b1 43).ix .b1 ≠ BitVec.ofNat 15 (6 * k)) := by
  refine ⟨bounded_ready, by decide, eff_zero _ _, eff_zero _ _, rfl, by decide, by decide, rfl, rfl, ?_⟩
  decide

theorem test_witness_InternalFunctions : base.Ready ∧ (0o00603 : Addr).toNat ∉ infCodes := ⟨base_ready, by decide⟩

theorem test_witness_InternalSense :
    base.Ready ∧ base.half = .upper ∧ low.Ready ∧ low.half = .lower ∧ (0o00222 : Addr).toNat ∉ senCodes :=
  ⟨base_ready, rfl, low_ready, rfl, by decide⟩

/-- Over an LDA t2 is allowed and t0 is not; over IAQ v is not; v = 7 with and without a designator in the word. -/
theorem test_witness_Augment :
    let s := base.setU 0o1200020012000200
    let t := (holding base 0o200 0o100300).setU 0o1200020012000200
    s.Ready ∧ s.half = .upper ∧ (field s.u 18 6).toNat = 0o12 ∧ s.installed (field s.u 0 15) = true ∧
    field (s.mem.readWord (field s.u 0 15)) 15 3 = 0 ∧ field (t.mem.readWord (field t.u 0 15)) 15 3 ≠ 0 ∧
    (field (base.setU 0o5000000000700554).u 18 6).toNat = 0 ∧ low.Ready ∧ low.half = .lower :=
  ⟨⟨rfl, rfl⟩, rfl, by decide, rfl, by decide, by decide, by decide, low_ready, rfl⟩

theorem test_witness_BoundsInstructions :
    base.Ready ∧ ¬(base.ctl.active = true ∧ base.mask.getLsbD 42 = true) ∧ bounded.Ready ∧
    bounded.ctl.active = true ∧ bounded.mask.getLsbD 42 = true :=
  ⟨base_ready, by decide, bounded_ready, rfl, by decide⟩

/-- An equipment that replies, as equipment 4 on channel 0. -/
def cabled : State :=
  base.setEquip [{ channel := .c0, number := 4, shared := none,
                   device := .other { connected := false, answers := [.reply], status := 0, sig := false } }]

/-- Busy, connected, connectable and silent; with a parity error; absent. -/
theorem test_witness_ConnectFunction :
    cabled.Ready ∧ cabled.chanInstalled .c0 = true ∧ (cabled.chan .c0).active = false ∧ cabled.codeParity = false ∧
    (connectAll .c0 0o4000 cabled.equip).1 = .reply ∧ (connectAll .c0 0o5000 cabled.equip).1 ≠ .reply ∧
    (cabled.chan .c0).conn = none ∧
    ((cabled.setChan .c0 { Channel.clear with conn := some (4, 0) }).chan .c0).conn = some (4, 0) ∧
    ((cabled.setChan .c0 { Channel.clear with active := true }).chan .c0).active = true ∧
    (cabled.setCodeParity true).codeParity = true ∧ cabled.chanInstalled .c1 = false ∧ 4 ≤ (4 : BitVec 3).toNat :=
  ⟨⟨rfl, rfl⟩, by decide, rfl, rfl, by decide, by decide, rfl, rfl, rfl, rfl, by decide, by decide⟩

theorem test_witness_ReadWrite :
    base.Ready ∧ base.chanInstalled .c0 = true ∧ (base.chan .c0).active = false ∧ base.installed 0o77777 = true ∧
    ((base.setChan .c0 { Channel.clear with active := true }).chan .c0).active = true ∧
    base.chanInstalled .c3 = false ∧ 4 ≤ (7 : BitVec 3).toNat :=
  ⟨base_ready, by decide, rfl, rfl, rfl, by decide, by decide⟩

/-- An idle channel, and one active in a Write with a connected equipment. -/
theorem test_witness_ChannelRegisters :
    let s := cabled.setChan .c0 { Channel.clear with active := true, dir := .write, wc := 1 }
    base.Ready ∧ base.chanInstalled .c0 = true ∧ base.autoLoading ≠ some .c0 ∧ (base.chan .c0).active = false ∧
    s.Ready ∧ s.chanInstalled .c0 = true ∧ s.autoLoading ≠ some .c0 ∧ (s.chan .c0).active = true ∧
    (s.chan .c0).dir = .write ∧ base.chanInstalled .c1 = false ∧ 4 ≤ (4 : BitVec 3).toNat :=
  ⟨base_ready, by decide, by decide, rfl, ⟨rfl, rfl⟩, by decide, by decide, rfl, rfl, by decide, by decide⟩

theorem test_witness_InterruptRegisters :
    base.Ready ∧ 1 ∈ [1, 2, 3, 4, 5, 10, 11, 12, 13, 20, 21, 22, 23, 42, 43, 44, 45, 46] ∧
    47 ∉ [1, 2, 3, 4, 5, 10, 11, 12, 13, 20, 21, 22, 23, 30, 31, 32, 33, 42, 43, 44, 45, 46] :=
  ⟨base_ready, by decide, by decide⟩

/-- A card reader that is reading, with one word in its memory or none. -/
def reader (memory : List (BitVec 12)) : Device :=
  .cardReader
    { connected := true, reserved := true, otherReserved := false, reserveReject := false, ready := true, busy := false,
      reading := true, endOfFileSwitch := false, stackerFull := false, hopperEmpty := false, failToFeed := false,
      compareError := false, negate := true, gateCard := false, binaryCard := true, irqs := .off, memory := memory }

/-- The paper tape station at work in character mode, with its reader or its punch. -/
def station (side : TapeStation) : PaperTape :=
  { connected := side, parityError := false, clearSwitch := false, punchCycle := side == .punch,
    readerReady := true, punchReady := true, busy := true,
    supplyLow := false, motionFailure := false, readerLast := side == .reader, assembly := false, irqs := .off,
    active := true, begun := false, frames := [], punched := [] }

/-- The same as a device. -/
def tape (side : TapeStation) : Device := .paperTape (station side)

/-- A device as equipment 2 of channel 0, which is active in a direction with a count and one event to come. -/
def moving (d : Device) (dir : Dir) (w : Addr) (e : ChannelEvent) : State :=
  (((base.setEquip [{ channel := .c0, number := 2, shared := none, device := d }]).setChan .c0
    { Channel.clear with active := true, dir := dir, wc := w }).setEnv [.channel e])

/-- Channel 0 in each direction with each of the smallest counts, inactive, and channel 1 absent; an Auto Load on it;
input that is free and input that is not, a Write that is blocked and one that is not; and nothing, a word and an End
of Record from a mechanism. -/
theorem test_witness_ChannelAgent :
    base.mem.wf = true ∧ (base.chan .c0).active = false ∧ base.chanInstalled .c1 = false ∧
    (∀ d dir w e, let s := moving d dir w e
      s.env = [Event.channel e] ∧ s.autoLoading = none ∧ s.chanInstalled .c0 = true ∧ (s.chan .c0).active = true ∧
      (s.chan .c0).dir = dir ∧ (s.chan .c0).wc = w ∧ s.installed (s.chan .c0).ca = true) ∧ (1 : Addr) ≠ 0 ∧
    (base.setAutoLoading (some .c0)).autoLoading = some .c0 ∧
    (let s := moving (tape .reader) .read 1 (.frame .c0 5);
      s.inputFree .c0 Device.freeInput = false ∧ s.inputFree .c0 Device.ends = false ∧
      supplied .c0 (fun d => d.frame 5) s.equip = .word 5 ∧ supplied .c0 (fun d => d.unload) s.equip = .none) ∧
    (moving (reader []) .read 1 (.unload .c0)).inputFree .c0 Device.ends = true ∧
    supplied .c0 (fun d => d.frame 0)
      (moving (match tape .reader with
        | .paperTape d => .paperTape { d with assembly := true, begun := true }
        | d => d) .read 1 (.frame .c0 0)).equip = .endOfRecord ∧
    base.inputFree .c0 Device.freeInput = true ∧
    (moving (tape .punch) .write 1 (.take .c0)).writeBlocked .c0 = false ∧
    (moving (reader []) .write 1 (.take .c0)).writeBlocked .c0 = true := by
  refine ⟨by decide, rfl, by decide, fun _ _ _ _ => ⟨rfl, rfl, rfl, rfl, rfl, rfl, rfl⟩, by decide, rfl, ?_⟩
  decide

/-! ### The equipments (spec/48_external_equipment.md) -/

/-- R368: a word is four columns of the card, and leaves the memory. -/
theorem test_card_word :
    seen (moving (reader [0o4000, 1, 2, 3]) .read 1 (.unload .c0)) (fun t => t.mem.readWord 0) =
      some 0o4000000100020003#48 := by decide

/-- R357: the punch in character mode punches the low-order bits of a word. -/
theorem test_punch_frame :
    seen ((moving (tape .punch) .write 1 (.take .c0)).setMem (Memory.writeWord [] 0 0o7777000000000377))
      (fun t => t.equip.map (fun e => match e.device with | .paperTape d => d.punched | _ => [])) =
      some [[0o377]] := by decide

/-- R362: "If the 5th bit is a '1', the 6th bit is complemented", and zeros are written as 12. -/
theorem test_tape_codes :
    tapeBcd 0 = 0o12 ∧ tapeBcd 0o21 = 0o61 ∧ tapeBcd 0o61 = 0o21 ∧ tapeBcd 0o07 = 0o07 ∧ tapeUnbcd 0o12 = 0 := by decide

/-- R367: the letters A, J and S are punched in rows 12 and 1, 11 and 1, 0 and 2. -/
theorem test_punch_columns :
    punchColumn 0o21 = 0o4400 ∧ punchColumn 0o41 = 0o2400 ∧ punchColumn 0o62 = 0o1200 := by decide

/-- U6: an event of a channel that is not installed sets no Interrupt bit. -/
theorem test_absent_channel :
    seen (base.setEnv [.byteParity .c1]) (·.intr) = some 0 ∧ seen (base.setEnv [.byteParity .c0]) (·.intr) =
      some (bitWord 20) := by decide

/-- R422: only a transition of the switch acts. -/
theorem test_system_off :
    seen ((base.setConsole { base.console with systemActive := false }).setEnv [.systemOff]) (·.running) = some true ∧
    seen ((base.setConsole { base.console with systemActive := true }).setEnv [.systemOff]) (·.running) =
      some false := by decide

/-- Channel 0 reads one word to 00200, its interrupt is selected, and its events are to fall inside the instruction. -/
def racing (w : Word) (bs : List (List ChannelEvent)) : State :=
  (((((holding (machine w) 0o200 5).setChan .c0
    { Channel.clear with active := true, dir := .read, wc := 1, ca := 0o200 }).setCtl
    { IntCtl.clear with active := true }).setMask (bitWord 10)).setInter bs)

/-- R70: LDA reads the old word, the channel stores a new one and ends, and the interrupt is taken at that same
sampling point. -/
theorem test_store_before_sampling :
    let s := answer (.lda .zero 0o200) (racing 0 [[], [.deliver .c0 1 2 3 4, .take .c0]])
    s.a = 5 ∧ s.mem.readWord 0o200 = 0o0001000200030004 ∧ (s.p, s.half) = (0o7, .lower) := by decide

/-- R70: the channel ends between the fetch of COPY and its execution. -/
theorem test_event_after_fetch :
    seen (racing 0o7440000000000000 [[], [.deliver .c0 1 2 3 4, .take .c0]])
      (fun t => (t.a, t.p, t.half)) = some (0o201, 0o7, .lower) := by decide

/-- A punch as one of two linked controls. -/
def punchControl (mine writing otherWriting : Bool) : Device :=
  .cardPunch
    { connected := true, reserved := mine, otherReserved := !mine, reserveReject := !mine, ready := true, busy := false,
      writing := writing, otherWriting := otherWriting, ownCycle := false, failToFeed := false, compareError := false,
      negate := true, checkLast := false, irqs := .off, columns := [1, 2, 3, 4], loaded := none, unchecked := none,
      readBack := none, cards := [] }

/-- R366, R367: the end of a transfer on the other control's channel leaves this control's Write and its card; the end of
its own punches the card. -/
theorem test_linked_punches :
    let es : List Attached :=
      [{ channel := .c0, number := 2, shared := some 0, device := punchControl true true false },
       { channel := .c1, number := 2, shared := some 0, device := punchControl false false true }]
    let look := fun (fs : List Attached) => fs.map (fun e =>
      match e.device with
      | .cardPunch d => (d.writing, d.columns.length, d.cards.length)
      | _ => (false, 0, 0))
    look (onChannel .c1 (fun e => e.device.endTransfer .write) es) = [(true, 4, 0), (false, 4, 0)] ∧
    look (onChannel .c1 (fun e => e.device.clear) es) = [(true, 4, 0), (false, 4, 0)] ∧
    look (onChannel .c0 (fun e => e.device.endTransfer .write) es) = [(false, 0, 1), (false, 0, 1)] := by decide

/-- A tape control whose Read has just ended within its record, in which one frame is left. -/
def tapeControl : MagTape :=
  { connected := true, unit := some 0, binary := true, reverse := false, controlBusy := true, lostData := false,
    longParity := false, vertParity := false, reserveReject := false, parityError := false, irqs := .off, active := false,
    moving := true, passing := true, waiting := none, frames := [], tracks := 0o105, written := [],
    units := [{ number := 0, holder := .thisControl, ready := true, busy := true, writeEnable := true, fileMark := false,
                loadPoint := false, endOfTape := false, unloaded := false, density := 0, motion := .read }] }

/-- R362: "the rest of the record is passed over": the next Read waits for its end, and takes neither its frames nor its
End of Record. -/
theorem test_tape_passes_over :
    let d := tapeControl.start .read
    let e := (d.frame 0o121).2
    let f := (e.check 0o024).2
    d.waiting = some .read ∧ (d.frame 0o121).1 = .none ∧ (e.check 0o024).1 = .none ∧ f.longParity = false ∧
    (f.mechanical none { f with units := f.units.map (fun t => { t with busy := false }) }).moving = true := by decide

/-- R361: no event drops Lost Data. -/
theorem test_lost_data_stays :
    (({ tapeControl with lostData := true }).mechanical none tapeControl).lostData = true := by decide

/-- R355: "A reader not ready condition exists" when its interrupt is selected. -/
theorem test_not_ready_selected :
    (match tape .reader with
      | .paperTape d => ((({ d with readerReady := false }).function 0o0022).2.irqs.endOp.sig, (d.function 0o0022).2.irqs.endOp.sig)
      | _ => (false, false)) = (true, false) := by decide

/-- R365: an End of Record comes from a coupler when the other division drops its Write, and not before. -/
theorem test_coupler_ends :
    let d : Coupler :=
      { connected := true, flags := 0, mask := 0, abnormalSel := false, activeSel := false, sig := false,
        otherRunning := true, otherRead := false, otherWrite := true, otherParity := false }
    let s := moving (.coupler d) .read 1 (.endOfRecord .c0)
    seen s (fun t => (t.chan .c0).active) = some true ∧
    seen (s.setEnv [.channel (.mechanism .c0 2 (.coupler { d with otherWrite := false }))])
      (fun t => ((t.chan .c0).active, t.intr)) = some (false, bitWord 10) := by decide

/-- R368: a Read whose count is used up before its next card leaves that card whole; the binary card line needs the
card. -/
theorem test_card_kept :
    let s := moving (reader (List.replicate 80 1)) .read 0 (.unload .c0)
    seen s (fun t => ((t.chan .c0).active, t.equip.map (fun e =>
      match e.device with
      | .cardReader d => (d.memory.length, d.status.getLsbD 2)
      | _ => (0, false)))) = some (false, [(80, true)]) ∧
    (reader []).status.getLsbD 2 = false := by decide

/-- R354: the paper tape station notes an error in a function code while it is connected, not one in a connect code; its
Master Clear switch drops the signal. -/
theorem test_paper_tape_parity :
    let noted := fun (d : Device) => match d with | .paperTape d => d.parityError | _ => false
    let wrong := (tape .reader).parityError .function
    noted ((tape .reader).parityError .connect) = false ∧ noted ((tape .none).parityError .function) = false ∧
    noted wrong = true ∧
    (match wrong with
      | .paperTape d => noted (Device.mechanical none wrong (.paperTape { d with clearSwitch := true }))
      | _ => true) = false := by decide

/-- R362: a Read that waits begins when the event that ends the unit's motion goes to the linked control. -/
theorem test_linked_tape_resumes :
    let unit := fun (h : Holder) => tapeControl.units.map (fun t => { t with holder := h })
    let a : MagTape := { tapeControl with moving := false, passing := false, active := true, waiting := some .read }
    let b : MagTape := { a with connected := false, unit := none, active := false, waiting := none,
                                units := unit .otherControl }
    let es : List Attached :=
      [{ channel := .c0, number := 2, shared := some 0, device := .magTape a },
       { channel := .c1, number := 2, shared := some 0, device := .magTape b }]
    let idle := { b with units := b.units.map (fun t => { t with busy := false }) }
    (replaceEquipment .c1 2 none (.magTape idle) es).map (fun e =>
      match e.device with
      | .magTape d => (d.moving, d.waiting, d.units.map (fun t => (t.holder, t.busy, t.motion)))
      | _ => (false, none, [])) =
      [(true, none, [(.thisControl, true, .read)]), (false, none, [(.otherControl, true, .read)])] := by decide

/-- R361: File Mark comes up when a search ends at one, stays while the unit is idle, and drops when a Read begins. -/
theorem test_file_mark :
    let search := fun (busy mark : Bool) =>
      tapeControl.units.map (fun t => { t with motion := .code 0o0013, busy := busy, fileMark := mark })
    let marks := fun (d : MagTape) => d.units.map (fun t => t.fileMark)
    let d : MagTape := { tapeControl with moving := false, passing := false, units := search true false }
    let e := d.mechanical none { d with units := search false true }
    marks e = [true] ∧ marks (e.mechanical none { e with units := search false false }) = [true] ∧
    marks (e.start .read) = [false] := by decide

/-- R366: line 11 follows the other control's reserve. -/
theorem test_punch_reserved :
    (punchControl true true false).status.getLsbD 11 = false ∧
    (punchControl false false true).status.getLsbD 11 = true ∧
    (Device.mechanical (some (fun _ => false)) (punchControl false false false)
      (punchControl true false false)).status.getLsbD 11 = false := by decide

/-- R355: a reader cycle that ends while the punch is connected is no punch cycle. -/
theorem test_reader_cycle_ends :
    let on : Irq := { sel := true, sig := false }
    let d := fun (punched : Bool) =>
      { station .punch with
        active := false, punchCycle := punched, supplyLow := true,
        irqs := { ready := .off, endOp := on, abnormal := on } }
    let ends := fun (d : PaperTape) => (d.mechanical { d with busy := false }).irqs
    ((ends (d false)).endOp.sig, (ends (d false)).abnormal.sig) = (false, false) ∧
    ((ends (d true)).endOp.sig, (ends (d true)).abnormal.sig) = (true, true) := by decide

/-- The switch off and on, with a channel that is active and one that is not installed. -/
theorem test_witness_ResetValues :
    let s := ((cabled.setChan .c0 { Channel.clear with active := true }).setConsole
      { cabled.console with systemActive := false }).setEnv [.systemOn]
    s.env = [Event.systemOn] ∧ s.console.systemActive = false ∧ s.chanInstalled .c0 = true ∧
    (s.chan .c0).active = true ∧ s.chanInstalled .c1 = false ∧ cabled.console.systemActive = true := by decide

/-- A key and a coupler's dropped Write in a Read; a typewriter and an equipment that are not there. -/
theorem test_witness_ChannelAgent_devices :
    let w : Typewriter :=
      { power := true, connected := true, abnSel := false, intSig := false, upperCase := true, endOfLine := false,
        typeParity := false, busy := false, codeParity := false, typing := false, disturbed := false, page := [] }
    let c : Coupler :=
      { connected := true, flags := 0, mask := 0, abnormalSel := false, activeSel := false, sig := false,
        otherRunning := true, otherRead := false, otherWrite := true, otherParity := false }
    let drop : Device := .coupler { c with otherWrite := false }
    let s := moving (.typewriter w) .read 1 (.key .c0 2 1)
    let t := moving (.coupler c) .read 1 (.mechanism .c0 2 drop)
    s.env = [Event.channel (.key .c0 2 1)] ∧ s.typewriterOn .c0 2 = true ∧ s.typewriterOn .c0 3 = false ∧
    t.env = [Event.channel (.mechanism .c0 2 drop)] ∧ t.equip.any (fun e => e.isAt .c0 2) = true ∧
    t.equip.any (fun e => e.isAt .c0 3) = false ∧
    t.equip.any (fun e => e.isAt .c0 2 && e.device.writeDrops drop) = true := by decide

/-- A connected typewriter in lower case. -/
def typist : Device :=
  .typewriter
    { power := true, connected := true, abnSel := false, intSig := false, upperCase := false, endOfLine := false,
      typeParity := false, busy := false, codeParity := false, typing := false, disturbed := false, page := [] }

/-- The End-of-Record switch inside an instruction and between two, on a typewriter's Read and without a typewriter; a
console that is locked out and one that is not. -/
theorem test_witness_ChannelAgent_switch :
    let s := moving typist .read 1 (.endOfRecordSwitch .c0)
    let typed := fun t : State => t.equip.any (fun e => decide (e.channel = .c0) && e.device.typewriterConnected)
    s.env = [Event.channel (.endOfRecordSwitch .c0)] ∧ s.reading .c0 = true ∧ typed s = true ∧
    (∀ y, y ∈ [ChanId.c1, .c2, .c3] → s.reading y = false) ∧ s.console.systemActive = true ∧
    typed (moving (tape .reader) .read 1 (.endOfRecordSwitch .c0)) = false ∧
    (let c := (s.setConsole { s.console with systemActive := false }).console;
      c.systemActive = false ∧ c.maintenance = false) := by decide

/-- R70, R307, R346: the switch ends a typewriter's Read between LDA's last reference and its sampling point. -/
theorem test_switch_before_sampling :
    let s := answer (.lda .zero 0o200)
      ((racing 0 [[], [.endOfRecordSwitch .c0]]).setEquip
        [{ channel := .c0, number := 2, shared := none, device := typist }])
    (s.a, (s.chan .c0).active, (s.chan .c0).wc) = (5, false, 1) ∧ (s.p, s.half) = (0o7, .lower) := by decide

/-- R344, R345: the automatic shift to lower case makes the typewriter busy, and only where it is in upper case. -/
theorem test_write_shifts_case :
    let w := fun up : Bool => Device.typewriter
      { power := true, connected := true, abnSel := false, intSig := false, upperCase := up, endOfLine := false,
        typeParity := false, busy := false, codeParity := false, typing := false, disturbed := false, page := [] }
    ((w true).start .write).status.extractLsb' 1 2 = 1#2 ∧ ((w false).start .write).status.extractLsb' 1 2 = 0#2 ∧
    ((w true).endTransfer .write).status.extractLsb' 1 2 = 1#2 := by decide

end Sys2Proof.Tests
end

section
/-! PROOFS. The one's complement adder (spec/00_scope.md R11, R12): each primitive as a number, at every width, and from
these the value of a sum or a difference and the operands that give -0. -/

namespace Sys2Proof.Machine

/-- The end-around borrow counts modulo `2 ^ n - 1`. -/
theorem ocsub_toNat {n : Nat} (x y : BitVec n) :
    (ocsub x y).toNat = if x.toNat < y.toNat then x.toNat + (2 ^ n - 1) - y.toNat else x.toNat - y.toNat := by
  have hx := x.isLt
  have hy := y.isLt
  rw [ocsub]
  split
  next borrow =>
    have hn : n ≠ 0 := by rintro rfl; omega
    have h1 : 1 < 2 ^ n := Nat.one_lt_two_pow hn
    have hd : (x - y).toNat = 2 ^ n - (y.toNat - x.toNat) := BitVec.toNat_sub_of_lt borrow
    have hone : (1#n).toNat = 1 := BitVec.toNat_one (by omega)
    rw [BitVec.toNat_sub_of_le (by rw [BitVec.le_def]; omega)]
    omega
  next noBorrow => exact BitVec.toNat_sub_of_le (Nat.le_of_not_lt noBorrow)

/-- The upper half of the patterns stands for the numbers `2 ^ (n + 1) - 1` below. -/
theorem ocVal_eq {n : Nat} (v : BitVec (n + 1)) :
    ocVal v = if v.toNat < 2 ^ n then (v.toNat : Int) else v.toNat - (2 ^ (n + 1) - 1 : Nat) := by
  have hv := v.isLt
  simp only [ocVal, BitVec.msb_eq_decide, Nat.add_sub_cancel, decide_eq_true_eq, BitVec.toNat_not]
  split <;> split <;> omega

theorem ocVal_not {n : Nat} (v : BitVec (n + 1)) : ocVal (~~~v) = -ocVal v := by
  have hv := v.isLt
  rw [ocVal_eq, ocVal_eq, BitVec.toNat_not]
  split <;> split <;> omega

/-! ### Values -/

/-- Within the range the difference is exact: the operands' signs and the borrow decide which multiple of
`2 ^ (n + 1) - 1` separates the two sides, and the range leaves only 0. -/
theorem ocVal_ocsub {n : Nat} (x y : BitVec (n + 1)) (range : (ocVal x - ocVal y).natAbs < 2 ^ n) :
    ocVal (ocsub x y) = ocVal x - ocVal y := by
  have hx := x.isLt
  have hy := y.isLt
  rw [ocVal_eq x, ocVal_eq y] at range ⊢
  rw [ocVal_eq, ocsub_toNat]
  by_cases borrow : x.toNat < y.toNat
  · rw [if_pos borrow]
    split_ifs at range ⊢ <;> omega
  · rw [if_neg borrow]
    split_ifs at range ⊢ <;> omega

theorem ocVal_ocadd {n : Nat} (x y : BitVec (n + 1)) (range : (ocVal x + ocVal y).natAbs < 2 ^ n) :
    ocVal (ocadd x y) = ocVal x + ocVal y := by
  have hneg : ocVal x - ocVal (~~~y) = ocVal x + ocVal y := by rw [ocVal_not, sub_neg_eq_add]
  rw [ocadd, ocVal_ocsub x (~~~y) (by rwa [hneg]), hneg]

/-! ### The operands that give -0 -/

theorem ocsub_eq_allOnes_iff {n : Nat} (x y : BitVec n) :
    ocsub x y = BitVec.allOnes n ↔ x = BitVec.allOnes n ∧ y = 0 := by
  have hx := x.isLt
  have hy := y.isLt
  rw [← BitVec.toNat_inj, ← BitVec.toNat_inj, ← BitVec.toNat_inj, ocsub_toNat, BitVec.toNat_allOnes,
    BitVec.ofNat_eq_ofNat, BitVec.toNat_ofNat, Nat.zero_mod]
  split <;> omega

theorem ocadd_eq_allOnes_iff {n : Nat} (x y : BitVec n) :
    ocadd x y = BitVec.allOnes n ↔ x = BitVec.allOnes n ∧ y = BitVec.allOnes n := by
  have hy : ~~~y = 0 ↔ y = BitVec.allOnes n := by
    rw [BitVec.not_eq_comm, BitVec.ofNat_eq_ofNat, BitVec.not_zero, eq_comm]
  rw [ocadd, ocsub_eq_allOnes_iff, hy]

/-- Settles O9: the facts of every width, taken at 48 and at 15 bits. -/
theorem onesComplementAdder : Obligations.OnesComplementAdder :=
  ⟨ocVal_ocadd (n := 47), ocVal_ocsub (n := 47), ocVal_ocadd (n := 14), ocVal_ocsub (n := 14),
    ocadd_eq_allOnes_iff, ocsub_eq_allOnes_iff, ocadd_eq_allOnes_iff, ocsub_eq_allOnes_iff⟩

end Sys2Proof.Machine
end

section
/-! PROOFS. What each operation and each instruction leaves unchanged among A, Q, the index, bounds and Interrupt Mask
registers, the console, the installation and what the world does next
(spec/10_state.md R20, R21, R23, R29, R34, R39). -/

namespace Sys2Proof.Machine

/-- The registers of a program that the frame of an instruction speaks of. -/
inductive Register where
  | a | q | b | bu | bl | mask
deriving DecidableEq

/-- Of the registers only those of `w` may differ, and the installation, the console and what the world does next do
not. -/
def ChangesOnly (w : List Register) (s t : State) : Prop :=
  (t.cfg = s.cfg ∧ t.console = s.console ∧ t.env = s.env) ∧
    (.bu ∉ w → t.bu = s.bu) ∧ (.bl ∉ w → t.bl = s.bl) ∧ (.mask ∉ w → t.mask = s.mask) ∧
    (.a ∉ w → t.a = s.a) ∧ (.q ∉ w → t.q = s.q) ∧ (.b ∉ w → t.b = s.b)

/-- Every state that an operation started in `s` can give changes only `w`. -/
def Keeps (w : List Register) (s : State) (r : Res State) : Prop := ∀ t, r = .ok t → ChangesOnly w s t

section
variable {w : List Register} {s t u : State}

@[simp] theorem ChangesOnly.refl : ChangesOnly w s s := by simp [ChangesOnly]

theorem ChangesOnly.trans (first : ChangesOnly w s t) (second : ChangesOnly w t u) : ChangesOnly w s u := by
  obtain ⟨⟨cfg, console, env⟩, bu, bl, mask, a, q, b⟩ := first
  obtain ⟨⟨cfg', console', env'⟩, bu', bl', mask', a', q', b'⟩ := second
  exact ⟨⟨cfg'.trans cfg, console'.trans console, env'.trans env⟩, fun h => (bu' h).trans (bu h),
    fun h => (bl' h).trans (bl h), fun h => (mask' h).trans (mask h), fun h => (a' h).trans (a h),
    fun h => (q' h).trans (q h), fun h => (b' h).trans (b h)⟩

@[simp] theorem keeps_ok : Keeps w s (.ok t) ↔ ChangesOnly w s t := by
  simp [Keeps]

@[simp] theorem keeps_error (e : Stop) : Keeps w s (.error e) := fun _ h => by cases h

theorem Keeps.after {r : Res State} (first : ChangesOnly w s t) (rest : Keeps w t r) : Keeps w s r :=
  fun u hu => first.trans (rest u hu)

/-! ### Writes of one field -/

@[simp] theorem changesOnly_setA (v : Word) (h : .a ∈ w) : ChangesOnly w s (u.setA v) ↔ ChangesOnly w s u := by
  simp [ChangesOnly, h]

@[simp] theorem changesOnly_setQ (v : Word) (h : .q ∈ w) : ChangesOnly w s (u.setQ v) ↔ ChangesOnly w s u := by
  simp [ChangesOnly, h]

@[simp] theorem changesOnly_setB (v : IndexRegs) (h : .b ∈ w) : ChangesOnly w s (u.setB v) ↔ ChangesOnly w s u := by
  simp [ChangesOnly, h]

@[simp] theorem changesOnly_setMask (v : Word) (h : .mask ∈ w) :
    ChangesOnly w s (u.setMask v) ↔ ChangesOnly w s u := by
  simp [ChangesOnly, h]

@[simp] theorem changesOnly_setBu (v : BitVec 8) (h : .bu ∈ w) :
    ChangesOnly w s (u.setBu v) ↔ ChangesOnly w s u := by
  simp [ChangesOnly, h]

@[simp] theorem changesOnly_setBl (v : BitVec 8) (h : .bl ∈ w) :
    ChangesOnly w s (u.setBl v) ↔ ChangesOnly w s u := by
  simp [ChangesOnly, h]

@[simp] theorem changesOnly_setP (v : Addr) : ChangesOnly w s (u.setP v) ↔ ChangesOnly w s u := Iff.rfl
@[simp] theorem changesOnly_setHalf (v : Half) : ChangesOnly w s (u.setHalf v) ↔ ChangesOnly w s u := Iff.rfl
@[simp] theorem changesOnly_setU (v : Word) : ChangesOnly w s (u.setU v) ↔ ChangesOnly w s u := Iff.rfl
@[simp] theorem changesOnly_setUHeld (v : Bool) : ChangesOnly w s (u.setUHeld v) ↔ ChangesOnly w s u := Iff.rfl
@[simp] theorem changesOnly_setAug (v : Aug) : ChangesOnly w s (u.setAug v) ↔ ChangesOnly w s u := Iff.rfl
@[simp] theorem changesOnly_setIntr (v : Word) : ChangesOnly w s (u.setIntr v) ↔ ChangesOnly w s u := Iff.rfl
@[simp] theorem changesOnly_setCtl (v : IntCtl) : ChangesOnly w s (u.setCtl v) ↔ ChangesOnly w s u := Iff.rfl
@[simp] theorem changesOnly_setRunning (v : Bool) : ChangesOnly w s (u.setRunning v) ↔ ChangesOnly w s u := Iff.rfl
@[simp] theorem changesOnly_setSlsStopped (v : Bool) : ChangesOnly w s (u.setSlsStopped v) ↔ ChangesOnly w s u :=
  Iff.rfl
@[simp] theorem changesOnly_setChans (v : Channels) : ChangesOnly w s (u.setChans v) ↔ ChangesOnly w s u := Iff.rfl
@[simp] theorem changesOnly_setMem (v : Memory) : ChangesOnly w s (u.setMem v) ↔ ChangesOnly w s u := Iff.rfl
@[simp] theorem changesOnly_setEquip (v : List Attached) : ChangesOnly w s (u.setEquip v) ↔ ChangesOnly w s u :=
  Iff.rfl
@[simp] theorem changesOnly_setAutoLoading (v : Option ChanId) :
    ChangesOnly w s (u.setAutoLoading v) ↔ ChangesOnly w s u := Iff.rfl
@[simp] theorem changesOnly_setCodeParity (v : Bool) : ChangesOnly w s (u.setCodeParity v) ↔ ChangesOnly w s u :=
  Iff.rfl
@[simp] theorem changesOnly_setInter (v : List (List ChannelEvent)) :
    ChangesOnly w s (u.setInter v) ↔ ChangesOnly w s u := Iff.rfl
@[simp] theorem changesOnly_setFreeCount (v : Nat) : ChangesOnly w s (u.setFreeCount v) ↔ ChangesOnly w s u := Iff.rfl

/-! ### Operations that cannot stop -/

@[simp] theorem changesOnly_setFault (n : Nat) : ChangesOnly w s (u.setFault n) ↔ ChangesOnly w s u := Iff.rfl
@[simp] theorem changesOnly_clearFault (n : Nat) : ChangesOnly w s (u.clearFault n) ↔ ChangesOnly w s u := Iff.rfl
@[simp] theorem changesOnly_setChan (x : ChanId) (c : Channel) :
    ChangesOnly w s (u.setChan x c) ↔ ChangesOnly w s u := Iff.rfl
@[simp] theorem changesOnly_nextStep : ChangesOnly w s u.nextStep ↔ ChangesOnly w s u := Iff.rfl
@[simp] theorem changesOnly_goto (a : Addr) (h : Half) : ChangesOnly w s (u.goto a h) ↔ ChangesOnly w s u := Iff.rfl
@[simp] theorem changesOnly_exitLand : ChangesOnly w s u.exitLand ↔ ChangesOnly w s u := Iff.rfl
@[simp] theorem changesOnly_stop : ChangesOnly w s u.stop ↔ ChangesOnly w s u := Iff.rfl
@[simp] theorem changesOnly_freeWord : ChangesOnly w s u.freeWord.2 ↔ ChangesOnly w s u := Iff.rfl
@[simp] theorem changesOnly_freeBit : ChangesOnly w s u.freeBit.2 ↔ ChangesOnly w s u := Iff.rfl
@[simp] theorem changesOnly_moved (x : ChanId) (f : Device → Supply × Device) :
    ChangesOnly w s (u.moved x f) ↔ ChangesOnly w s u := Iff.rfl

@[simp] theorem changesOnly_advance : ChangesOnly w s u.advance ↔ ChangesOnly w s u := by
  unfold State.advance
  split <;> simp

@[simp] theorem changesOnly_skipIf (c : Bool) : ChangesOnly w s (u.skipIf c) ↔ ChangesOnly w s u := by
  cases c <;> simp [State.skipIf, State.skipLower]

@[simp] theorem changesOnly_endAug (h : Half) : ChangesOnly w s (u.endAug h) ↔ ChangesOnly w s u := by
  cases h <;> simp [State.endAug]

@[simp] theorem changesOnly_enter (c : Category) : ChangesOnly w s (u.enter c) ↔ ChangesOnly w s u := by
  cases c <;> simp [State.enter, State.hardwareReturnJump]

@[simp] theorem changesOnly_setIx (r : Ix) (v : Addr) (h : .b ∈ w) :
    ChangesOnly w s (u.setIx r v) ↔ ChangesOnly w s u := changesOnly_setB _ h

@[simp] theorem changesOnly_setIxOf (r : Option Ix) (v : Addr) (h : .b ∈ w) :
    ChangesOnly w s (u.setIxOf r v) ↔ ChangesOnly w s u := by
  cases r <;> simp [State.setIxOf, h]

theorem normalJump_changesOnly {a : Addr} {seq : State} (hseq : ChangesOnly w s seq) (hu : ChangesOnly w s u) :
    ChangesOnly w s (normalJump a seq u) := by
  unfold normalJump
  split <;> simpa

/-! ### The channels -/

@[simp] theorem changesOnly_autoStart (x : ChanId) : ChangesOnly w s (u.autoStart x) ↔ ChangesOnly w s u := by
  unfold State.autoStart
  split <;> simp

@[simp] theorem changesOnly_channelHalt (x : ChanId) : ChangesOnly w s (u.channelHalt x) ↔ ChangesOnly w s u := by
  simp [State.channelHalt]

@[simp] theorem changesOnly_clearWith (f : Device → Device) (x : ChanId) :
    ChangesOnly w s (u.clearWith f x) ↔ ChangesOnly w s u := by
  unfold State.clearWith
  dsimp only
  split <;> simp

theorem endOfRecordAt_changesOnly (x : ChanId) : ChangesOnly w s (s.endOfRecordAt x) := by
  rcases s.endOfRecordAt_cases x with h | ⟨-, h⟩ <;> simp [h]

theorem equipmentEvent_changesOnly (x : ChanId) (n : BitVec 3) (k : Option Nat) (d : Device) :
    ChangesOnly w s (s.equipmentEvent x n k d) := by
  rcases s.equipmentEvent_cases x n k d with h | ⟨-, h⟩ <;> simp [h]

theorem channelStore_keeps (x : ChanId) (v : Word) : Keeps w s (s.channelStore x v) := by
  unfold State.channelStore
  split <;> simp

theorem channelSend_keeps (x : ChanId) : Keeps w s (s.channelSend x) := by
  unfold State.channelSend
  dsimp only
  split <;> simp

theorem supply_keeps (x : ChanId) (f : Device → Supply × Device) : Keeps w s (s.supply x f) := by
  unfold State.supply
  split
  · split
    · simp
    · split
      · simp
      · exact .after (t := s.moved x f) (by simp) (channelStore_keeps x _)
      · simp
  · simp

theorem pressKey_keeps (x : ChanId) (n : BitVec 3) (code : BitVec 6) : Keeps w s (s.pressKey x n code) := by
  unfold State.pressKey
  dsimp only
  split
  · split
    · simp
    · exact .after (by simp) (channelStore_keeps x _)
  · simp

theorem installedEvent_keeps (e : ChannelEvent) : Keeps w s (installedEvent e s) := by
  cases e with
  | deliver x b1 b2 b3 b4 =>
    simp only [installedEvent]
    split_ifs
    · simp
    · exact channelStore_keeps x _
    · simp
    · simp
  | endOfRecord x =>
    simp only [installedEvent]
    split <;> simp
  | endOfRecordSwitch x =>
    simp only [installedEvent, keeps_ok]
    split
    · simp
    · exact endOfRecordAt_changesOnly x
  | take x =>
    simp only [installedEvent]
    split
    · split
      · simp
      · split
        · simp
        · split
          · simp
          · exact channelSend_keeps x
    · simp
  | key x n code =>
    simp only [installedEvent]
    split
    · exact pressKey_keeps x n code
    · simp
  | frame x f => exact supply_keeps x _
  | check x f => exact supply_keeps x _
  | unload x => exact supply_keeps x _
  | mechanism x n d =>
    simp only [installedEvent, keeps_ok]
    split
    · exact equipmentEvent_changesOnly x n none d
    · simp

theorem channelEvent_keeps (e : ChannelEvent) : Keeps w s (channelEvent e s) := by
  unfold channelEvent
  split
  · exact installedEvent_keeps e
  · simp

theorem channelEvents_keeps (es : List ChannelEvent) : Keeps w s (channelEvents es s) := by
  induction es generalizing s with
  | nil => simp [channelEvents]
  | cons e es ih =>
    unfold channelEvents
    split
    next t ht => exact .after (channelEvent_keeps e t ht) ih
    next => simp

/-! ### References and operands -/

theorem reference_changesOnly (h : reference s = .ok t) : ChangesOnly w s t := by
  rcases reference_cases h with ⟨-, rfl⟩ | ⟨es, rest, -, hes⟩
  · simp
  · exact .trans (by simp) (channelEvents_keeps es t hes)

theorem readMem_changesOnly {a : Addr} {x : Word} (h : readMem a s = .ok (x, t)) : ChangesOnly w s t :=
  reference_changesOnly (readMem_cases h).1

theorem modifyMem_keeps (a : Addr) (f : Word → Word) : Keeps w s (modifyMem a f s) := by
  intro t h
  rcases modifyMem_cases h with ⟨-, rfl⟩ | ⟨-, u, hu, -, rfl⟩
  · simp
  · simpa using reference_changesOnly hu

theorem writeMem_keeps (a : Addr) (x : Word) : Keeps w s (writeMem a x s) := modifyMem_keeps a _

theorem writePart_keeps {len : Nat} (a : Addr) (lo : Nat) (v : BitVec len) : Keeps w s (writePart a lo v s) :=
  modifyMem_keeps a _

theorem returnJump_keeps (a : Addr) : Keeps w s (returnJump a s) := by
  intro t h
  rcases returnJump_cases h with ⟨-, rfl⟩ | ⟨-, u, hu, rfl⟩
  · simp
  · simpa using writePart_keeps a 24 _ u hu

theorem takeInterrupt_keeps (c : Category) : Keeps w s (takeInterrupt c s) := by
  intro t h
  obtain ⟨u, hu, rfl⟩ := takeInterrupt_cases h
  simpa using reference_changesOnly hu

theorem resolveIn_changesOnly {n : Nat} {b : Desig} {m : Addr} {x : Option Ix × Addr}
    (h : resolveIn n b m s = .ok (x, t)) : ChangesOnly w s t := by
  induction n generalizing b m s with
  | zero =>
    cases b with
    | zero => cases h; simp
    | ix r => cases h; simp
    | seven => cases h
  | succ n ih =>
    cases b with
    | zero => cases h; simp
    | ix r => cases h; simp
    | seven =>
      simp only [resolveIn] at h
      split at h
      next x u hx => exact (readMem_changesOnly hx).trans (ih h)
      next => cases h

theorem resolve_changesOnly {b : Desig} {m : Addr} {x : Option Ix × Addr} (h : resolve b m s = .ok (x, t)) :
    ChangesOnly w s t := resolveIn_changesOnly h

theorem effective_changesOnly {b : Desig} {m a : Addr} (h : effective b m s = .ok (a, t)) : ChangesOnly w s t := by
  unfold effective at h
  split at h
  next hr => cases h; exact resolve_changesOnly hr
  next => cases h

theorem onResolved_keeps (b : Desig) (m : Addr) {f : Option Ix → Addr → State → Res State}
    (hf : ∀ r a v, Keeps w v (f r a v)) : Keeps w s (onResolved b m f s) := by
  unfold onResolved
  split
  next hr => exact .after (resolve_changesOnly hr) (hf _ _ _)
  next => simp

theorem onEffective_keeps (b : Desig) (m : Addr) {f : Addr → State → Res State} (hf : ∀ a v, Keeps w v (f a v)) :
    Keeps w s (onEffective b m f s) := by
  unfold onEffective
  split
  next ha => exact .after (effective_changesOnly ha) (hf _ _)
  next => simp

theorem onOperand_keeps (b : Desig) (m : Addr) {f : Word → State → State} (hf : ∀ x v, ChangesOnly w v (f x v)) :
    Keeps w s (onOperand b m f s) := by
  unfold onOperand operand
  split
  next x v hx =>
    split at hx
    next ha => simpa using (effective_changesOnly ha).trans ((readMem_changesOnly hx).trans (hf x v))
    next => cases hx
  next => simp

theorem onShift_keeps (b : Desig) (k : Addr) {f : Nat → State → State} (hf : ∀ n v, ChangesOnly w v (f n v)) :
    Keeps w s (onShift b k f s) := by
  refine onEffective_keeps b k fun n v => keeps_ok.mpr (ChangesOnly.trans (t := v.shiftFault n) ?_ (hf _ _))
  unfold State.shiftFault
  split <;> simp

/-! ### The end of an instruction -/

theorem complete_keeps (h : Half) : Keeps w s (complete h s) := by
  intro t e
  obtain ⟨u, hu, ⟨-, rfl⟩ | ⟨-, ht⟩⟩ := complete_cases e
  · exact .trans (by simp) (reference_changesOnly hu)
  · exact .trans (by simp) ((reference_changesOnly hu).trans (takeInterrupt_keeps .one t ht))

theorem outcome_eq_next {r : Res State} (h : r.outcome = .next t) : r = .ok t := by
  unfold Res.outcome at h
  split at h <;> cases h
  rfl

theorem finish_changesOnly {r : Res State} (hr : Keeps w s r) (h : finish s r = .next t) : ChangesOnly w s t := by
  obtain ⟨u, hu, -, ht⟩ := finish_cases h
  exact (hr u hu).trans (complete_keeps _ t ht)

theorem finishSeq_changesOnly {r : Res State} (hr : Keeps w s r) (h : finishSeq s r = .next t) :
    ChangesOnly w s t := by
  obtain ⟨u, hu, -, ht⟩ := finishSeq_cases h
  exact (changesOnly_advance.mpr (hr u hu)).trans (complete_keeps _ t ht)

theorem finishJump_changesOnly {taken : Bool} {r : Res State} (hr : Keeps w s r)
    (h : finishJump s taken r = .next t) : ChangesOnly w s t := by
  obtain ⟨u, hu, ⟨-, ht⟩ | ⟨-, -, ht⟩⟩ := finishJump_cases h
  · exact (hr u hu).trans (complete_keeps _ t ht)
  · exact (changesOnly_exitLand.mpr (hr u hu)).trans (complete_keeps _ t ht)

theorem condJump_changesOnly {c : Bool} {m : Addr} (h : condJump c m s = .next t) : ChangesOnly w s t := by
  refine finishJump_changesOnly (keeps_ok.mpr ?_) h
  split
  · exact normalJump_changesOnly (by simp) .refl
  · simp

theorem condReturn_changesOnly {c : Bool} {m : Addr} (h : condReturn c m s = .next t) : ChangesOnly w s t := by
  refine finish_changesOnly ?_ h
  split
  · exact returnJump_keeps m
  · simp

theorem execIjp_changesOnly {b : Desig} {m : Addr} (hw : .b ∈ w) (h : execIjp b m s = .next t) :
    ChangesOnly w s t := by
  unfold execIjp at h
  split at h
  next u hr => exact finishJump_changesOnly (keeps_ok.mpr (by simpa using resolve_changesOnly hr)) h
  next r a u hr =>
    have hu : ChangesOnly w s u := resolve_changesOnly hr
    split at h
    · cases h
    · split at h
      · exact finishJump_changesOnly (by simpa using hu) h
      · exact finishJump_changesOnly
          (keeps_ok.mpr (normalJump_changesOnly (by simpa [hw] using hu) (by simpa [hw] using hu))) h
  next => cases h
  next => cases h

/-! ### Arithmetic -/

@[simp] theorem changesOnly_putA (r : Word × State) (h : .a ∈ w) :
    ChangesOnly w s (putA r) ↔ ChangesOnly w s r.2 := changesOnly_setA _ h

@[simp] theorem changesOnly_sum (x y : Word) : ChangesOnly w s (sum x y u).2 ↔ ChangesOnly w s u := by
  unfold sum
  split <;> simp

@[simp] theorem changesOnly_difference (x y : Word) : ChangesOnly w s (difference x y u).2 ↔ ChangesOnly w s u := by
  unfold difference
  split <;> simp

@[simp] theorem changesOnly_freeZero (n : Nat) : ChangesOnly w s (freeZero n u).2 ↔ ChangesOnly w s u := Iff.rfl

@[simp] theorem changesOnly_multiply (x y : Word) : ChangesOnly w s (multiply x y u).2 ↔ ChangesOnly w s u := by
  unfold multiply
  dsimp only
  split <;> simp

theorem divide_changesOnly (d : Word) (ha : .a ∈ w) (hq : .q ∈ w) : ChangesOnly w s (divide d s) := by
  have fault : ChangesOnly w s s.divideFault := by simp [State.divideFault, ha, hq]
  unfold divide
  dsimp only
  split
  · exact fault
  · split
    · exact fault
    · rw [changesOnly_setQ _ hq, changesOnly_setA _ ha]
      split <;> simp

theorem floatingPoint_changesOnly (k : FpKind) (x : Word) (ha : .a ∈ w) (hq : .q ∈ w) :
    ChangesOnly w s (floatingPoint k x s) := by
  unfold floatingPoint
  dsimp only
  split_ifs <;> simp [ha, hq]

theorem floating_changesOnly {k : FpKind} {b : Desig} {m : Addr} (ha : .a ∈ w) (hq : .q ∈ w)
    (h : floating k b m s = .next t) : ChangesOnly w s t := by
  unfold floating at h
  split at h
  · exact finishSeq_changesOnly (onOperand_keeps b m fun x v => floatingPoint_changesOnly k _ ha hq) h
  · exact finish_changesOnly (takeInterrupt_keeps _) h

theorem replace_keeps (b : Desig) (m : Addr) {f : Word → State → Word × State}
    (hf : ∀ x v, ChangesOnly w v (putA (f x v))) : Keeps w s (replace b m f s) := by
  refine onEffective_keeps b m fun a v => ?_
  split
  next x u hx => exact .after ((readMem_changesOnly hx).trans (hf x u)) (writeMem_keeps a _)
  next => simp

theorem searchLoop_changesOnly {hit : Word → Bool} {r : Ix} {m : Addr} {n : Nat} {found : Bool} (hw : .b ∈ w)
    (h : searchLoop hit r m n s = .ok (found, t)) : ChangesOnly w s t := by
  induction n generalizing s with
  | zero => cases h; simp
  | succ n ih =>
    simp only [searchLoop] at h
    split at h
    next x u hx =>
      have hu : ChangesOnly w s u := .trans (by simp [hw]) (readMem_changesOnly hx)
      split at h
      · cases h; exact hu
      · exact hu.trans (ih h)
    next => cases h

theorem search_keeps (hit : Word → State → Bool) (b : Desig) (m : Addr) (hw : .b ∈ w) :
    Keeps w s (search hit b m s) := by
  refine onResolved_keeps b m fun r a v => ?_
  cases r with
  | none =>
    dsimp only
    split
    next hx => simpa using readMem_changesOnly hx
    next => simp
  | some i =>
    dsimp only
    split
    · simp
    · split
      next hu => simpa using searchLoop_changesOnly hw hu
      next => simp

/-! ### Internal functions and input/output -/

@[simp] theorem changesOnly_select (n : Nat) (h : .mask ∈ w) : ChangesOnly w s (u.select n) ↔ ChangesOnly w s u :=
  changesOnly_setMask _ h

@[simp] theorem changesOnly_deselect (n : Nat) (h : .mask ∈ w) :
    ChangesOnly w s (u.deselect n) ↔ ChangesOnly w s u := changesOnly_setMask _ h

theorem internalFunction_changesOnly {y : Nat} (hw : .mask ∈ w) (h : internalFunction y s = some t) :
    ChangesOnly w s t := by
  unfold internalFunction at h
  split at h <;> cases h <;> simp [hw]

theorem augAddress_keeps (v : Desig) : Keeps w s (augAddress v s) := by
  cases v with
  | zero => simp [augAddress]
  | ix r =>
    simp only [augAddress]
    split <;> simp
  | seven =>
    simp only [augAddress]
    split
    · simp
    · split
      next hx =>
        split
        · simpa using readMem_changesOnly hx
        · simp
      next => simp

theorem augment_keeps (v : Desig) (t2 t1 t0 : Bool) : Keeps w s (augment v t2 t1 t0 s) := by
  unfold augment
  split
  · simp
  · split
    · split
      next u hu => simpa using augAddress_keeps v u hu
      next => simp
    · simp

@[simp] theorem changesOnly_reject (n : Addr) : ChangesOnly w s (reject n u) ↔ ChangesOnly w s u := by
  rw [reject_eq]
  split <;> simp

@[simp] theorem changesOnly_codeError (x : ChanId) (k : Transmitted) :
    ChangesOnly w s (u.codeError x k) ↔ ChangesOnly w s u := Iff.rfl

@[simp] theorem changesOnly_afterReply (n : Addr) (r : Reply × State) :
    ChangesOnly w s (afterReply n r) ↔ ChangesOnly w s r.2 := by
  unfold afterReply
  split <;> simp

theorem sendConnect_changesOnly (x : ChanId) (c : BitVec 12) : ChangesOnly w s (sendConnect x c s).2 := by
  unfold sendConnect
  split
  · simp
  · dsimp only
    split <;> simp

theorem sendFunction_changesOnly (x : ChanId) (c : BitVec 12) : ChangesOnly w s (sendFunction x c s).2 := by
  unfold sendFunction
  split
  · simp
  · split <;> simp

theorem startChannel_keeps (x : ChanId) (d : Dir) (m : Addr) : Keeps w s (startChannel x d m s) := by
  unfold startChannel
  split
  next hx => simpa using readMem_changesOnly hx
  next => simp

/-! ### Instructions with a shape of their own -/

theorem execIsk_changesOnly {b : Desig} {y : Addr} (hw : .b ∈ w) (h : execIsk b y s = .next t) :
    ChangesOnly w s t := by
  refine finish_changesOnly (onResolved_keeps b y fun r k v => keeps_ok.mpr ?_) h
  unfold indexSkip
  split <;> simp [State.skipLower, hw]

theorem execSsh_changesOnly {b : Desig} {m : Addr} (h : execSsh b m s = .next t) : ChangesOnly w s t := by
  refine finish_changesOnly (onEffective_keeps b m fun a v => ?_) h
  split
  next x u hx =>
    split
    next z hz => simpa using (readMem_changesOnly hx).trans (writeMem_keeps a _ z hz)
    next => simp
  next => simp

theorem stopElse_changesOnly {j : SwCond} {o : Out} (ho : o = .next t → ChangesOnly w s t)
    (h : (if s.stopCond j then .next s.stop else o) = .next t) : ChangesOnly w s t := by
  split at h
  · cases h; simp
  · exact ho h

theorem execLdc_changesOnly {b p : Desig} {m : Addr} (hw : .a ∈ w) (h : execLdc b p m s = .next t) :
    ChangesOnly w s t := by
  refine finish_changesOnly (onEffective_keeps b m fun a v => ?_) h
  split
  · split
    next hx => simpa [hw] using readMem_changesOnly hx
    next => simp
  · simp

theorem execStc_changesOnly {b p : Desig} {m : Addr} (h : execStc b p m s = .next t) : ChangesOnly w s t := by
  refine finish_changesOnly (onEffective_keeps b m fun a v => ?_) h
  split
  · split
    next x u hx =>
      split
      next z hz => simpa using (readMem_changesOnly hx).trans (writeMem_keeps a _ z hz)
      next => simp
    next => simp
  · simp

theorem execInf_changesOnly {y : Addr} (hw : .mask ∈ w) (h : execInf y s = .next t) : ChangesOnly w s t := by
  refine finishSeq_changesOnly ?_ h
  split
  next u hu => simpa using internalFunction_changesOnly hw hu
  next => simp

theorem execSen_changesOnly {y : Addr} (h : execSen y s = .next t) : ChangesOnly w s t := by
  unfold execSen at h
  split at h
  · exact finishSeq_changesOnly (by simp) h
  · split at h
    · exact finish_changesOnly (by simp) h
    · cases h

theorem execAug_changesOnly {v : Desig} {t2 t1 t0 : Bool} (h : execAug v t2 t1 t0 s = .next t) :
    ChangesOnly w s t := by
  unfold execAug at h
  split at h
  · exact finishSeq_changesOnly (by simp) h
  · exact augment_keeps v t2 t1 t0 t (outcome_eq_next h)

/-- EUB and ELB: the illegal one is an interrupt, the legal one a write of its register (R288, R289). -/
theorem boundsElse_changesOnly (hu : ChangesOnly w s u)
    (h : (if s.boundsLocked then finish s (takeInterrupt .three s) else finishSeq s (.ok u)) = .next t) :
    ChangesOnly w s t := by
  split at h
  · exact finish_changesOnly (takeInterrupt_keeps _) h
  · exact finishSeq_changesOnly (keeps_ok.mpr hu) h

/-- CONN and EXTF on an installed channel: busy rejects, else the answer of the equipments (R303, R304). -/
theorem ifBusy_changesOnly (n : Addr) (k : ChanId) {r : Reply × State} (hr : ChangesOnly w s r.2) :
    ChangesOnly w s (if (s.chan k).active then reject n s else afterReply n r) := by
  split <;> simp [hr]

/-! ### The instructions -/

/-- The registers an instruction may write. -/
def writtenBy : Instr → List Register
  | .eub _ => [.bu]
  | .elb _ => [.bl]
  | .inf _ => [.mask]
  | .iaq | .copy _ | .mui _ _ | .dvi _ _ | .lrs _ _ | .lls _ _ | .fad _ _ | .fsb _ _ | .fmu _ _ | .fdv _ _ => [.a, .q]
  | .cis | .cpr | .ccwd _ | .ldc _ _ _ | .lda _ _ | .lac _ _ | .ena _ _ | .add _ _ | .sub _ _ | .ina _ _ | .sst _ _
  | .scl _ _ | .scm _ _ | .ssu _ _ | .ldl _ _ | .adl _ _ | .sbl _ _ | .ars _ _ | .als _ _ | .rad _ _ | .rsb _ _
  | .rao _ _ | .rso _ _ => [.a]
  | .ldq _ _ | .lqc _ _ | .enq _ _ | .qrs _ _ | .qls _ _ => [.q]
  | .sca _ _ => [.a, .b]
  | .scq _ _ => [.a, .q, .b]
  | .ati _ | .liu _ _ | .lil _ _ | .eni _ _ | .ini _ _ | .isk _ _ | .eqs _ _ | .ths _ _ | .meq _ _ | .mth _ _
  | .ijp _ _ => [.b]
  | .sta _ _ | .stq _ _ | .stl _ _ | .sau _ _ | .sal _ _ | .siu _ _ | .sil _ _ | .ssk _ _ | .ssh _ _ | .ajp _ _
  | .qjp _ _ | .slj _ _ | .sls _ _ | .arj _ _ | .qrj _ _ | .rtj _ _ | .srj _ _ | .conn _ _ _ | .extf _ _ _
  | .begr _ _ _ | .begw _ _ _ | .clch _ | .sen _ | .aug _ _ _ _ | .stc _ _ _ => []

theorem exec_changesOnly (i : Instr) (h : exec i s = .next t) : ChangesOnly (writtenBy i) s t := by
  cases i with
  | iaq =>
    unfold exec at h
    exact finishSeq_changesOnly (w := [.a, .q]) (by simp) h
  | cis | cpr =>
    unfold exec at h
    exact finishSeq_changesOnly (w := [.a]) (by simp) h
  | lda b m | lac b m | sst b m | scl b m | scm b m | ssu b m | ldl b m | add b m | sub b m | adl b m | sbl b m =>
    exact finishSeq_changesOnly (w := [.a]) (onOperand_keeps b m fun x v => by simp) h
  | ldq b m | lqc b m => exact finishSeq_changesOnly (w := [.q]) (onOperand_keeps b m fun x v => by simp) h
  | mui b m => exact finishSeq_changesOnly (w := [.a, .q]) (onOperand_keeps b m fun x v => by simp [State.setQA]) h
  | dvi b m =>
    exact finishSeq_changesOnly (w := [.a, .q])
      (onOperand_keeps b m fun x v => divide_changesOnly _ (by simp) (by simp)) h
  | sta b m | stq b m | stl b m => exact finishSeq_changesOnly (onEffective_keeps b m fun a v => writeMem_keeps a _) h
  | sau b m | sal b m => exact finishSeq_changesOnly (onEffective_keeps b m fun a v => writePart_keeps a _ _) h
  | siu b m | sil b m => exact finishSeq_changesOnly (onResolved_keeps b m fun r a v => writePart_keeps a _ _) h
  | liu b m | lil b m =>
    refine finishSeq_changesOnly (w := [.b]) (onResolved_keeps b m fun r a v => ?_) h
    split
    next hx => simpa using readMem_changesOnly hx
    next => simp
  | enq b y => exact finishSeq_changesOnly (w := [.q]) (onEffective_keeps b y fun k v => by simp) h
  | ena b y | ina b y => exact finishSeq_changesOnly (w := [.a]) (onEffective_keeps b y fun k v => by simp) h
  | eni b y | ini b y => exact finishSeq_changesOnly (w := [.b]) (onResolved_keeps b y fun r k v => by simp) h
  | ati b => exact finishSeq_changesOnly (w := [.b]) (by cases b <;> simp) h
  | isk b y => exact execIsk_changesOnly (w := [.b]) (by simp) h
  | ars b k | als b k => exact finishSeq_changesOnly (w := [.a]) (onShift_keeps b k fun n v => by simp) h
  | qrs b k | qls b k => exact finishSeq_changesOnly (w := [.q]) (onShift_keeps b k fun n v => by simp) h
  | lrs b k | lls b k =>
    exact finishSeq_changesOnly (w := [.a, .q]) (onShift_keeps b k fun n v => by simp [State.setAQ]) h
  | sca b k => exact finishSeq_changesOnly (w := [.a, .b]) (onResolved_keeps b k fun r n v => by simp) h
  | scq b k =>
    exact finishSeq_changesOnly (w := [.a, .q, .b]) (onResolved_keeps b k fun r n v => by simp [State.setAQ]) h
  | rad b m | rsb b m | rao b m | rso b m =>
    exact finishSeq_changesOnly (w := [.a]) (replace_keeps b m fun x v => by simp) h
  | ssk b m => exact finish_changesOnly (onOperand_keeps b m fun x v => by simp) h
  | ssh b m => exact execSsh_changesOnly h
  | eqs b m | ths b m | meq b m | mth b m =>
    exact finish_changesOnly (w := [.b]) (search_keeps _ b m (by simp)) h
  | ajp j m | qjp j m | slj j m => exact condJump_changesOnly h
  | arj j m | qrj j m | rtj j m => exact condReturn_changesOnly h
  | ijp b m => exact execIjp_changesOnly (w := [.b]) (by simp) h
  | sls j m => exact stopElse_changesOnly condJump_changesOnly h
  | srj j m => exact stopElse_changesOnly condReturn_changesOnly h
  | conn n x c =>
    refine finish_changesOnly ?_ h
    split
    · exact keeps_ok.mpr (ifBusy_changesOnly n _ (sendConnect_changesOnly _ c))
    · simp
  | extf n x c =>
    refine finish_changesOnly ?_ h
    split
    · exact keeps_ok.mpr (ifBusy_changesOnly n _ (sendFunction_changesOnly _ c))
    · simp
  | begr n x m | begw n x m =>
    refine finish_changesOnly ?_ h
    split
    · split
      · simp
      · exact startChannel_keeps _ _ m
    · simp
  | copy x =>
    refine finish_changesOnly (w := [.a, .q]) ?_ h
    split <;> simp
  | clch x =>
    refine finish_changesOnly ?_ h
    split <;> simp [State.clearChannel]
  | ccwd x =>
    refine finish_changesOnly (w := [.a]) ?_ h
    split <;> simp
  | sen y => exact execSen_changesOnly h
  | inf y => exact execInf_changesOnly (w := [.mask]) (by simp) h
  | aug v t2 t1 t0 => exact execAug_changesOnly h
  | eub y => exact boundsElse_changesOnly (w := [.bu]) (by simp) h
  | elb y => exact boundsElse_changesOnly (w := [.bl]) (by simp) h
  | ldc b p m => exact execLdc_changesOnly (w := [.a]) (by simp) h
  | stc b p m => exact execStc_changesOnly h
  | fad b m | fsb b m | fmu b m | fdv b m => exact floating_changesOnly (w := [.a, .q]) (by simp) (by simp) h

end

theorem bu_not_mem_writtenBy {i : Instr} (h : ∀ y, i ≠ .eub y) : .bu ∉ writtenBy i := by
  cases i with
  | eub y => exact absurd rfl (h y)
  | _ => simp [writtenBy]

theorem bl_not_mem_writtenBy {i : Instr} (h : ∀ y, i ≠ .elb y) : .bl ∉ writtenBy i := by
  cases i with
  | elb y => exact absurd rfl (h y)
  | _ => simp [writtenBy]

theorem mask_not_mem_writtenBy {i : Instr} (h : ∀ y, i ≠ .inf y) : .mask ∉ writtenBy i := by
  cases i with
  | inf y => exact absurd rfl (h y)
  | _ => simp [writtenBy]

/-- Settles O19: every instruction changes only what the table `writtenBy` gives it, and the table has A, Q and the
index registers only at the instructions named. -/
theorem registerFrame : Obligations.RegisterFrame := by
  intro i s t h
  obtain ⟨fixed, bu, bl, mask, a, q, b⟩ := exec_changesOnly i h
  refine ⟨fixed, fun hi => bu (bu_not_mem_writtenBy hi), fun hi => bl (bl_not_mem_writtenBy hi),
    fun hi => mask (mask_not_mem_writtenBy hi), fun ha => ?_, fun hq => ?_, fun hb => ?_⟩
  · have written : .a ∈ writtenBy i := not_imp_comm.mp a ha
    clear * - written
    cases i <;> simp [writtenBy] at written ⊢
  · have written : .q ∈ writtenBy i := not_imp_comm.mp q hq
    clear * - written
    cases i <;> simp [writtenBy] at written ⊢
  · have written : .b ∈ writtenBy i := not_imp_comm.mp b hb
    clear * - written
    cases i <;> simp [writtenBy] at written ⊢

end Sys2Proof.Machine
end

section
/-! PROOFS. The machine after reset, and what the two master clears of the System Active switch leave
(spec/10_state.md R42, spec/70_reset_and_hazards.md R420 to R422). -/

namespace Sys2Proof.Machine

/-! ### The machine after reset -/

/-- Settles O21: at reset storage is empty, and every other flip-flop that the invariant speaks of is clear. -/
theorem resetInvariant : Obligations.ResetInvariant where
  memory := Memory.wf_nil
  held := nofun
  augment h := absurd rfl h
  stopped := nofun
  exit := nofun
  loading h := absurd rfl h

@[simp] theorem State.reset_interrupt : State.reset.interrupt = 0 := by decide

/-! ### The external master clear at one channel -/

theorem ChanId.index_lt (x : ChanId) : x.index < 4 := by
  cases x <;> decide

theorem ChanId.mem_all (x : ChanId) : x ∈ [ChanId.c0, .c1, .c2, .c3] := by
  cases x <;> simp

/-- The external master clear at one channel. -/
def State.masterClearAt (s : State) (x : ChanId) : State :=
  if s.chanInstalled x then s.clearWith Device.masterClear x else s

theorem State.externalMasterClear_eq_foldl (s : State) :
    s.externalMasterClear = [ChanId.c0, .c1, .c2, .c3].foldl State.masterClearAt s := rfl

theorem State.masterClearAt_absent {s : State} {x : ChanId} (hx : s.chanInstalled x = false) :
    s.masterClearAt x = s := by
  simp [State.masterClearAt, hx]

section
variable {s : State} (idle : s.autoLoading = none)
include idle

/-- With no Auto Load to start, only the channels, the Interrupt register and the equipments change. -/
theorem State.masterClearAt_frame (x : ChanId) :
    ∃ cs i es, s.masterClearAt x = ((s.setChans cs).setIntr i).setEquip es := by
  unfold State.masterClearAt
  split
  · exact ⟨_, _, _, State.clearWith_eq _ (by simp [idle])⟩
  · exact ⟨s.chans, s.intr, s.equip, rfl⟩

theorem State.masterClearAt_autoLoading (x : ChanId) : (s.masterClearAt x).autoLoading = none := by
  obtain ⟨cs, i, es, h⟩ := State.masterClearAt_frame idle x
  simpa [h] using idle

theorem State.masterClearAt_chanInstalled (x y : ChanId) :
    (s.masterClearAt x).chanInstalled y = s.chanInstalled y := by
  obtain ⟨cs, i, es, h⟩ := State.masterClearAt_frame idle x
  rw [h]
  rfl

theorem State.masterClearAt_chan (x y : ChanId) :
    (s.masterClearAt x).chan y =
      if y = x ∧ s.chanInstalled x = true then { s.chan x with active := false, conn := none, wc := 0, ca := 0 }
      else s.chan y := by
  cases hx : s.chanInstalled x with
  | false => simp [State.masterClearAt_absent hx]
  | true =>
    have e : (s.masterClearAt x).chan y =
        (s.setChan x { s.chan x with active := false, conn := none, wc := 0, ca := 0 }).chan y := by
      rw [State.masterClearAt, if_pos hx, State.clearWith_eq _ (by simp [idle])]
      rfl
    rw [e]
    by_cases hy : y = x
    · simp [hy]
    · simp [hy, State.chan_setChan_ne _ _ _ _ hy]

/-- Bit 10 + x is set by the end of an active channel's operation, bit 20 + x is cleared. -/
theorem State.masterClearAt_intr (x : ChanId) (n : Nat) :
    (s.masterClearAt x).intr.getLsbD n = true ↔
      (s.intr.getLsbD n = true ∧ (s.chanInstalled x = true → n ≠ 20 + x.index)) ∨
        (s.chanInstalled x = true ∧ (s.chan x).active = true ∧ n = 10 + x.index) := by
  cases hx : s.chanInstalled x with
  | false => simp [State.masterClearAt_absent hx]
  | true =>
    rw [State.masterClearAt, if_pos hx, State.clearWith_eq _ (by simp [idle]), State.setEquip_intr, State.setIntr_intr]
    have hi := x.index_lt
    by_cases hn : n < 48
    · rw [clearWith_bit hn]
      simp only [Bool.and_eq_true, Bool.or_eq_true, bne_iff_ne, beq_iff_eq, true_and, true_imp_iff]
      have apart : n = 10 + x.index → n ≠ 20 + x.index := by omega
      tauto
    · simp only [BitVec.getLsbD_of_ge _ _ (Nat.le_of_not_lt hn), Bool.false_eq_true, false_and, false_or, false_iff]
      omega

end

/-! ### The external master clear of several channels -/

theorem foldl_masterClearAt_frame (xs : List ChanId) {s : State} (idle : s.autoLoading = none) :
    ∃ cs i es, xs.foldl State.masterClearAt s = ((s.setChans cs).setIntr i).setEquip es := by
  induction xs generalizing s with
  | nil => exact ⟨s.chans, s.intr, s.equip, rfl⟩
  | cons x xs ih =>
    obtain ⟨cs, i, es, h⟩ := ih (State.masterClearAt_autoLoading idle x)
    obtain ⟨cs', i', es', h'⟩ := State.masterClearAt_frame idle x
    refine ⟨cs, i, es, ?_⟩
    rw [List.foldl_cons, h, h']
    rfl

theorem foldl_masterClearAt_chan (xs : List ChanId) (y : ChanId) {s : State} (idle : s.autoLoading = none) :
    (xs.foldl State.masterClearAt s).chan y =
      if y ∈ xs ∧ s.chanInstalled y = true then { s.chan y with active := false, conn := none, wc := 0, ca := 0 }
      else s.chan y := by
  induction xs generalizing s with
  | nil => simp
  | cons x xs ih =>
    rw [List.foldl_cons, ih (State.masterClearAt_autoLoading idle x), State.masterClearAt_chanInstalled idle,
      State.masterClearAt_chan idle]
    by_cases hyx : y = x
    · subst hyx
      cases s.chanInstalled y <;> simp
    · simp [hyx]

/-- A bit 10 + x that one channel sets is no bit 20 + y that another clears. -/
theorem foldl_masterClearAt_intr (xs : List ChanId) (n : Nat) {s : State} (idle : s.autoLoading = none) :
    (xs.foldl State.masterClearAt s).intr.getLsbD n = true ↔
      (s.intr.getLsbD n = true ∧ ∀ x ∈ xs, s.chanInstalled x = true → n ≠ 20 + x.index) ∨
        ∃ x ∈ xs, s.chanInstalled x = true ∧ (s.chan x).active = true ∧ n = 10 + x.index := by
  induction xs generalizing s with
  | nil => simp
  | cons x xs ih =>
    rw [List.foldl_cons, ih (State.masterClearAt_autoLoading idle x)]
    simp only [State.masterClearAt_chanInstalled idle, State.masterClearAt_intr idle, State.masterClearAt_chan idle]
    have apart : ∀ y z : ChanId, n = 10 + y.index → n ≠ 20 + z.index := by
      intro y z
      have := y.index_lt
      omega
    constructor
    · rintro (⟨⟨hn, hx⟩ | ⟨hx, ha, hn⟩, hxs⟩ | ⟨y, hy, hi, ha, hn⟩)
      · exact .inl ⟨hn, List.forall_mem_cons.mpr ⟨hx, hxs⟩⟩
      · exact .inr ⟨x, List.mem_cons_self, hx, ha, hn⟩
      · refine .inr ⟨y, List.mem_cons_of_mem _ hy, hi, ?_, hn⟩
        split at ha
        · cases ha
        · exact ha
    · rintro (⟨hn, hxs⟩ | ⟨y, hy, hi, ha, hn⟩)
      · obtain ⟨hx, hxs⟩ := List.forall_mem_cons.mp hxs
        exact .inl ⟨.inl ⟨hn, hx⟩, hxs⟩
      · by_cases hyx : y = x
        · subst hyx
          exact .inl ⟨.inr ⟨hi, ha, hn⟩, fun z _ _ => apart y z hn⟩
        · exact .inr ⟨y, (List.mem_cons.mp hy).resolve_left hyx, hi, by rwa [if_neg fun h => hyx h.1], hn⟩

theorem State.externalMasterClear_frame {s : State} (idle : s.autoLoading = none) :
    ∃ cs i es, s.externalMasterClear = ((s.setChans cs).setIntr i).setEquip es :=
  foldl_masterClearAt_frame _ idle

theorem State.externalMasterClear_chan {s : State} (idle : s.autoLoading = none) (x : ChanId) :
    s.externalMasterClear.chan x =
      if s.chanInstalled x = true then { s.chan x with active := false, conn := none, wc := 0, ca := 0 }
      else s.chan x := by
  rw [State.externalMasterClear_eq_foldl, foldl_masterClearAt_chan _ x idle]
  simp only [x.mem_all, true_and]

theorem State.externalMasterClear_intr {s : State} (idle : s.autoLoading = none) (n : Nat) :
    s.externalMasterClear.intr.getLsbD n = true ↔
      (s.intr.getLsbD n = true ∧ ∀ x, s.chanInstalled x = true → n ≠ 20 + x.index) ∨
        ∃ x, s.chanInstalled x = true ∧ (s.chan x).active = true ∧ n = 10 + x.index := by
  rw [State.externalMasterClear_eq_foldl, foldl_masterClearAt_intr _ n idle]
  simp only [ChanId.mem_all, true_imp_iff, true_and]

/-! ### The System Active switch -/

theorem step_systemOn {s : State} {rest : List Event} (h : s.env = .systemOn :: rest) :
    step s = .next (s.setEnv rest).systemOn := by
  simp [step, h, handle]

theorem State.systemOn_of_on {s : State} (on : s.console.systemActive = true) : s.systemOn = s := if_pos on

theorem State.systemOn_of_off {s : State} (off : s.console.systemActive = false) :
    s.systemOn = s.internalMasterClear.externalMasterClear.setConsole
      { s.internalMasterClear.externalMasterClear.console with systemActive := true } := by
  rw [State.systemOn, if_neg (by simp [off])]

/-- Settles O22: the internal master clear leaves a zero Interrupt register and no Auto Load, so the external one
changes the channels, the equipments and the bits of the channels that were active, and nothing else. -/
theorem resetValues : Obligations.ResetValues := by
  refine ⟨fun s rest h => ⟨fun on => ?_, fun off => ?_⟩, State.reset_interrupt, rfl, rfl, rfl, rfl, rfl, rfl, rfl, rfl,
    rfl, rfl, rfl, fun x => by cases x <;> exact ⟨rfl, rfl, rfl, rfl⟩, Memory.wf_nil⟩
  · exact (step_systemOn h).trans (congrArg _ (State.systemOn_of_on on))
  · have idle : (s.setEnv rest).internalMasterClear.autoLoading = none := rfl
    have chan := State.externalMasterClear_chan idle
    have intr := State.externalMasterClear_intr idle
    have next := (step_systemOn h).trans (congrArg _ (State.systemOn_of_off off))
    obtain ⟨cs, i, es, frame⟩ := State.externalMasterClear_frame idle
    rw [frame] at chan intr next
    refine ⟨_, next, rfl, rfl, rfl, rfl, rfl, rfl, rfl, rfl, rfl, rfl, rfl, rfl, rfl, fun x hx => ?_, fun x hx => ?_,
      fun n => (intr n).trans ?_, rfl, rfl, rfl, rfl⟩
    · have cleared := (chan x).trans (if_pos hx)
      exact ⟨congrArg Channel.active cleared, congrArg Channel.wc cleared, congrArg Channel.ca cleared,
        congrArg Channel.conn cleared⟩
    · exact (chan x).trans (if_neg (Bool.eq_false_iff.mp hx))
    · have zero : (s.setEnv rest).internalMasterClear.intr = 0 := rfl
      simp only [zero, BitVec.ofNat_eq_ofNat, BitVec.getLsbD_zero, Bool.false_eq_true, false_and, false_or]
      rfl

end Sys2Proof.Machine
end

section
/-! PROOFS. Storage: what a word that is written leaves to read (spec/20_memory.md R63, R64). -/

namespace Sys2Proof.Machine

/-- Settles O12: the laws of storage for the word written, another word, a byte outside the word (of storage or beyond
it), and the canonical form, which every law needs of the storage before the write. -/
theorem storageReadAfterWrite : Obligations.StorageReadAfterWrite := by
  intro m a w canonical
  obtain ⟨readBack, otherBytes⟩ := Memory.writeWord_spec (a := a) (w := w) canonical
  exact ⟨readBack, fun c hc => m.readWord_writeWord_ne a c w canonical hc, otherBytes,
    m.wf_writeWord a w canonical⟩

end Sys2Proof.Machine
end

section
/-! PROOFS. A property of a state that the register operations of a channel keep is kept by every event of a channel, by
the events at a point inside an instruction, and by the clears (spec/46_input_output.md R307, R311,
spec/70_reset_and_hazards.md R421). -/

namespace Sys2Proof.Machine

/-- Every state that an operation can give has the property. -/
def Gives (P : State → Prop) (r : Res State) : Prop := ∀ t, r = .ok t → P t

@[simp] theorem gives_ok {P : State → Prop} {t : State} : Gives P (.ok t) ↔ P t := by
  simp [Gives]

@[simp] theorem gives_error {P : State → Prop} (e : Stop) : Gives P (.error e) := fun _ h => by cases h

/-- A property of a state that no operation of a channel ends. -/
structure ChannelClosed (P : State → Prop) : Prop where
  setChans : ∀ {s} v, P s → P (s.setChans v)
  setEquip : ∀ {s} v, P s → P (s.setEquip v)
  setIntr : ∀ {s} v, P s → P (s.setIntr v)
  setInter : ∀ {s} v, P s → P (s.setInter v)
  writeWord : ∀ {s} a w, P s → P (s.setMem (s.mem.writeWord a w))
  autoStart : ∀ {s} x, P s → P (s.autoStart x)

namespace ChannelClosed

variable {P : State → Prop} {s t : State} (closed : ChannelClosed P)
include closed

theorem setChan (x : ChanId) (k : Channel) (hs : P s) : P (s.setChan x k) := closed.setChans _ hs

theorem moved (x : ChanId) (f : Device → Supply × Device) (hs : P s) : P (s.moved x f) := closed.setEquip _ hs

theorem channelHalt (x : ChanId) (hs : P s) : P (s.channelHalt x) :=
  closed.autoStart x (closed.setEquip _ (closed.setIntr _ (closed.setChan x _ hs)))

theorem clearWith (f : Device → Device) (x : ChanId) (hs : P s) : P (s.clearWith f x) := by
  have cleared := closed.setChan x { s.chan x with conn := none, wc := 0, ca := 0 } hs
  unfold State.clearWith
  refine closed.setEquip _ (closed.setIntr _ ?_)
  dsimp only
  split
  · exact closed.channelHalt x cleared
  · exact cleared

theorem endOfRecordAt (x : ChanId) (hs : P s) : P (s.endOfRecordAt x) := by
  rcases s.endOfRecordAt_cases x with h | ⟨-, h⟩ <;> rw [h]
  · exact hs
  · exact closed.channelHalt x hs

theorem equipmentEvent (x : ChanId) (n : BitVec 3) (k : Option Nat) (d : Device) (hs : P s) :
    P (s.equipmentEvent x n k d) := by
  have changed := closed.setEquip (replaceEquipment x n k d s.equip) hs
  rcases s.equipmentEvent_cases x n k d with h | ⟨-, h⟩ <;> rw [h]
  · exact changed
  · exact closed.channelHalt x changed

theorem channelStore (x : ChanId) (w : Word) (hs : P s) : Gives P (s.channelStore x w) := by
  unfold State.channelStore
  split
  · exact gives_ok.mpr (closed.setChan x _ (closed.writeWord _ w hs))
  · exact gives_error _

theorem channelSend (x : ChanId) (hs : P s) : Gives P (s.channelSend x) := by
  unfold State.channelSend
  dsimp only
  split
  · exact gives_ok.mpr (closed.setChan x _ (closed.setEquip _ hs))
  · exact gives_error _

theorem supply (x : ChanId) (f : Device → Supply × Device) (hs : P s) : Gives P (s.supply x f) := by
  unfold State.supply
  split
  · split
    · exact gives_ok.mpr (closed.moved x f (closed.channelHalt x hs))
    · split
      · exact gives_ok.mpr (closed.moved x f hs)
      · exact closed.channelStore x _ (closed.moved x f hs)
      · exact gives_ok.mpr (closed.channelHalt x (closed.moved x f hs))
  · exact gives_ok.mpr (closed.moved x f hs)

theorem pressKey (x : ChanId) (n : BitVec 3) (code : BitVec 6) (hs : P s) : Gives P (s.pressKey x n code) := by
  have typed := closed.setEquip
    (onChannel x (fun e => if e.number = n then e.device.key code (s.writing x) else e.device) s.equip) hs
  unfold State.pressKey
  dsimp only
  split
  · split
    · exact gives_ok.mpr (closed.channelHalt x typed)
    · exact closed.channelStore x _ typed
  · exact gives_ok.mpr typed

theorem installedEvent (e : ChannelEvent) (hs : P s) : Gives P (installedEvent e s) := by
  have stays : Gives P (.ok s) := gives_ok.mpr hs
  have halts (x : ChanId) : Gives P (.ok (s.channelHalt x)) := gives_ok.mpr (closed.channelHalt x hs)
  cases e with
  | deliver x b1 b2 b3 b4 =>
    simp only [Machine.installedEvent]
    split_ifs
    · exact halts x
    · exact closed.channelStore x _ hs
    · exact stays
    · exact stays
  | endOfRecord x =>
    simp only [Machine.installedEvent]
    split
    · exact halts x
    · exact stays
  | endOfRecordSwitch x =>
    simp only [Machine.installedEvent, gives_ok]
    split
    · exact hs
    · exact closed.endOfRecordAt x hs
  | take x =>
    simp only [Machine.installedEvent]
    split
    · split
      · exact halts x
      · split
        · exact stays
        · split
          · exact stays
          · exact closed.channelSend x hs
    · exact stays
  | key x n code =>
    simp only [Machine.installedEvent]
    split
    · exact closed.pressKey x n code hs
    · exact stays
  | frame x f => exact closed.supply x _ hs
  | check x f => exact closed.supply x _ hs
  | unload x => exact closed.supply x _ hs
  | mechanism x n d =>
    simp only [Machine.installedEvent, gives_ok]
    split
    · exact closed.equipmentEvent x n none d hs
    · exact hs

theorem channelEvent (e : ChannelEvent) (hs : P s) : Gives P (channelEvent e s) := by
  unfold Machine.channelEvent
  split
  · exact closed.installedEvent e hs
  · exact gives_ok.mpr hs

theorem channelEvents (es : List ChannelEvent) (hs : P s) : Gives P (channelEvents es s) := by
  induction es generalizing s with
  | nil => exact gives_ok.mpr hs
  | cons e es ih =>
    unfold Machine.channelEvents
    split
    next t ht => exact ih (closed.channelEvent e hs t ht)
    next => exact gives_error _

/-- The channel events at a point inside an instruction. -/
theorem reference (hs : P s) (h : reference s = .ok t) : P t := by
  rcases reference_cases h with ⟨-, rfl⟩ | ⟨es, rest, -, hes⟩
  · exact hs
  · exact closed.channelEvents es (closed.setInter rest hs) t hes

omit closed in
theorem foldInstalled {f : State → ChanId → State} (hf : ∀ s x, P s → P (f s x)) (xs : List ChanId) (hs : P s) :
    P (xs.foldl (fun t x => if t.chanInstalled x then f t x else t) s) := by
  refine List.foldlRecOn xs _ hs fun t ht x _ => ?_
  split
  · exact hf t x ht
  · exact ht

theorem externalMasterClear (hs : P s) : P s.externalMasterClear :=
  foldInstalled (fun _ x ht => closed.clearWith Device.masterClear x ht) _ hs

theorem endOfRecordSwitch (hs : P s) : P s.endOfRecordSwitch :=
  foldInstalled (fun _ x ht => closed.endOfRecordAt x ht) _ hs

end ChannelClosed

end Sys2Proof.Machine
end

section
/-! PROOFS. The invariant of the machine along every step (spec/30_encoding.md R101, spec/10_state.md R36, R37,
spec/60_exceptions.md R379, spec/70_reset_and_hazards.md R424). Of a state the invariant sees the canonical form of
storage and seven flip-flops, its `Control`. A meaning changes the control in its last move only, so each operation
inside an instruction is shown to keep storage canonical and the control as it is. -/

namespace Sys2Proof.Machine

/-! ### The control of a state -/

/-- The flip-flops that the invariant speaks of. -/
structure Control where
  half : Half
  uHeld : Bool
  aug : Aug
  exiting : Bool
  running : Bool
  slsStopped : Bool
  autoLoading : Option ChanId

def State.control (s : State) : Control :=
  { half := s.half, uHeld := s.uHeld, aug := s.aug, exiting := s.ctl.exiting, running := s.running,
    slsStopped := s.slsStopped, autoLoading := s.autoLoading }

/-- The state has this control, and its storage is canonical. -/
def Holds (c : Control) (s : State) : Prop := s.mem.wf = true ∧ s.control = c

/-- The instruction pointer moved. -/
def Control.moved (c : Control) (h : Half) (held : Bool) : Control := { c with half := h, uHeld := held }

/-- The state after an instruction's effect: only the pointer has moved, and U holds a half only if it is the lower
one. -/
def Past (c : Control) (s : State) : Prop :=
  ∃ h held, (held = true → h = .lower) ∧ Holds (c.moved h held) s

/-- The control while an instruction executes: an exit point is recognised in the upper half only. -/
structure Control.Executing (c : Control) : Prop where
  held : c.uHeld = true → c.half = .lower
  augment : c.aug ≠ .none → c.uHeld = true
  exit : c.exiting = true → c.half = .upper
  running : c.running = true
  stopped : c.slsStopped = false
  loading : c.autoLoading = none

/-- The control of a running computer between two instructions, where no augment operation is pending. -/
structure Control.Between (c : Control) : Prop where
  held : c.uHeld = true → c.half = .lower
  augment : c.aug = .none
  exit : c.exiting = false
  running : c.running = true
  stopped : c.slsStopped = false
  loading : c.autoLoading = none

/-! ### Writes of one field -/

section
variable {c : Control} {s t u : State}

@[simp] theorem holds_setA (v : Word) : Holds c (s.setA v) ↔ Holds c s := Iff.rfl
@[simp] theorem holds_setQ (v : Word) : Holds c (s.setQ v) ↔ Holds c s := Iff.rfl
@[simp] theorem holds_setU (v : Word) : Holds c (s.setU v) ↔ Holds c s := Iff.rfl
@[simp] theorem holds_setIntr (v : Word) : Holds c (s.setIntr v) ↔ Holds c s := Iff.rfl
@[simp] theorem holds_setChans (v : Channels) : Holds c (s.setChans v) ↔ Holds c s := Iff.rfl
@[simp] theorem holds_setConsole (v : Console) : Holds c (s.setConsole v) ↔ Holds c s := Iff.rfl
@[simp] theorem holds_setEquip (v : List Attached) : Holds c (s.setEquip v) ↔ Holds c s := Iff.rfl
@[simp] theorem holds_setCodeParity (v : Bool) : Holds c (s.setCodeParity v) ↔ Holds c s := Iff.rfl
@[simp] theorem holds_setEnv (v : List Event) : Holds c (s.setEnv v) ↔ Holds c s := Iff.rfl
@[simp] theorem holds_setInter (v : List (List ChannelEvent)) : Holds c (s.setInter v) ↔ Holds c s := Iff.rfl
@[simp] theorem holds_setFault (n : Nat) : Holds c (s.setFault n) ↔ Holds c s := Iff.rfl
@[simp] theorem holds_setChan (x : ChanId) (k : Channel) : Holds c (s.setChan x k) ↔ Holds c s := Iff.rfl

@[simp] theorem holds_setIxOf (r : Option Ix) (v : Addr) : Holds c (s.setIxOf r v) ↔ Holds c s := by
  cases r <;> rfl

/-- A write of flip-flops of the interrupt system that leaves the exit in progress as it is. -/
theorem holds_setCtl (v : IntCtl) (h : v.exiting = s.ctl.exiting) : Holds c (s.setCtl v) ↔ Holds c s := by
  simp [Holds, State.control, h]

theorem Holds.writeWord (hs : Holds c s) (a : Addr) (w : Word) : Holds c (s.setMem (s.mem.writeWord a w)) :=
  ⟨s.mem.wf_writeWord a w hs.1, hs.2⟩

end


/-! ### What the channels do -/

theorem State.autoStart_idle {s : State} (x : ChanId) (h : s.autoLoading = none) : s.autoStart x = s := by
  simp [State.autoStart, h]

/-- While no Auto Load goes on the channels start nothing. -/
theorem holds_channelClosed {c : Control} (quiet : c.autoLoading = none) : ChannelClosed (Holds c) where
  setChans v := (holds_setChans v).mpr
  setEquip v := (holds_setEquip v).mpr
  setIntr v := (holds_setIntr v).mpr
  setInter v := (holds_setInter v).mpr
  writeWord a w hs := hs.writeWord a w
  autoStart x hs := by
    obtain ⟨canonical, rfl⟩ := hs
    rw [State.autoStart_idle x quiet]
    exact ⟨canonical, rfl⟩

/-- The invariant reads the control and the canonical form only. -/
theorem State.Inv.of_holds {s t : State} (hs : s.Inv) (h : Holds s.control t) : t.Inv := by
  obtain ⟨canonical, same⟩ := h
  simp only [State.control, Control.mk.injEq] at same
  obtain ⟨half, held, aug, exiting, running, stopped, loading⟩ := same
  refine ⟨canonical, ?_, ?_, ?_, ?_, ?_⟩
  · rw [half, held]; exact hs.held
  · rw [aug, held]; exact hs.augment
  · rw [stopped, running]; exact hs.stopped
  · rw [exiting, stopped, half]; exact hs.exit
  · rw [loading, running, stopped, aug]; exact hs.loading

theorem State.Inv.holds {s : State} (hs : s.Inv) : Holds s.control s := ⟨hs.memory, rfl⟩

/-- An Auto Load's end starts the computer at a step that is still to be read (spec/70_reset_and_hazards.md R424). -/
theorem State.Inv.autoStart {s : State} (x : ChanId) (hs : s.Inv) : (s.autoStart x).Inv := by
  unfold State.autoStart
  split
  next reads =>
    obtain ⟨-, awake, clear⟩ := hs.loading (by simp [reads])
    have idle : s.ctl.exiting = true → False := fun h => by simp [(hs.exit h).1] at awake
    exact ⟨hs.memory, nofun, fun h => absurd clear h, fun h => by simp [awake] at h, fun h => (idle h).elim,
      fun h => absurd rfl h⟩
  next => exact hs

theorem inv_channelClosed : ChannelClosed State.Inv where
  setChans v hs := hs.of_holds ((holds_setChans v).mpr hs.holds)
  setEquip v hs := hs.of_holds ((holds_setEquip v).mpr hs.holds)
  setIntr v hs := hs.of_holds ((holds_setIntr v).mpr hs.holds)
  setInter v hs := hs.of_holds ((holds_setInter v).mpr hs.holds)
  writeWord a w hs := hs.of_holds (hs.holds.writeWord a w)
  autoStart x hs := hs.autoStart x

/-! ### The instruction pointer -/

section
variable {c : Control} {s t u : State}

theorem Holds.pointed (hs : Holds c s) (a : Addr) (h : Half) (held : Bool) :
    Holds (c.moved h held) (((s.setP a).setHalf h).setUHeld held) := by
  obtain ⟨canonical, rfl⟩ := hs
  exact ⟨canonical, rfl⟩

theorem Holds.goto (hs : Holds c s) (a : Addr) (h : Half) : Past c (s.goto a h) :=
  ⟨h, false, nofun, hs.pointed a h false⟩

theorem Holds.nextStep (hs : Holds c s) : Past c s.nextStep := hs.goto _ .upper

theorem Holds.advance (hs : Holds c s) : Past c s.advance := by
  unfold State.advance
  split
  · exact ⟨.lower, true, fun _ => rfl, hs.pointed s.p .lower true⟩
  · exact hs.nextStep

theorem Holds.skipIf (hs : Holds c s) (b : Bool) : Past c (s.skipIf b) := by
  cases b
  · exact hs.advance
  · exact hs.nextStep

theorem Past.setFault (n : Nat) (hs : Past c s) : Past c (s.setFault n) := hs

theorem Holds.normalJump (hs : Holds c s) (hu : Holds c u) (a : Addr) : Past c (normalJump a s.advance u) := by
  unfold Machine.normalJump
  split
  · exact hs.advance.setFault 42
  · exact hu.goto a .upper

theorem Holds.reject (hs : Holds c s) (n : Addr) : Past c (reject n s) := by
  unfold Machine.reject Machine.normalJump
  split
  · exact hs.nextStep.setFault 42
  · exact hs.goto n .upper

/-- The hardware's return jump: its store keeps storage canonical, and it goes to a lower half. -/
theorem Holds.hardwareReturnJump (hs : Holds c s) (fixed ret : Addr) :
    Holds (c.moved .lower false) (s.hardwareReturnJump fixed ret) :=
  (hs.writeWord fixed _).pointed fixed .lower false

theorem Holds.enter (hs : Holds c s) (k : Category) : Holds (c.moved .lower false) (s.enter k) := by
  cases k with
  | one => exact ((holds_setCtl _ rfl).mpr hs).hardwareReturnJump 0o7 _
  | two k =>
    obtain ⟨h, held, -, moved⟩ := hs.advance
    exact ((holds_setCtl _ rfl).mpr moved).hardwareReturnJump _ _
  | three => exact hs.hardwareReturnJump 0o20 _

end

/-! ### References and operands -/

section
variable {c : Control} {s t : State} (quiet : c.autoLoading = none)
include quiet

theorem Holds.reference (hs : Holds c s) (h : reference s = .ok t) : Holds c t :=
  (holds_channelClosed quiet).reference hs h

theorem Holds.readMem (hs : Holds c s) {a : Addr} {x : Word} (h : readMem a s = .ok (x, t)) : Holds c t :=
  hs.reference quiet (readMem_cases h).1

theorem Holds.modifyMem (hs : Holds c s) (a : Addr) (f : Word → Word) : Gives (Holds c) (modifyMem a f s) := by
  intro t h
  rcases modifyMem_cases h with ⟨-, rfl⟩ | ⟨-, u, hu, -, rfl⟩
  · exact hs
  · exact (hs.reference quiet hu).writeWord a _

theorem Holds.writeMem (hs : Holds c s) (a : Addr) (x : Word) : Gives (Holds c) (writeMem a x s) :=
  hs.modifyMem quiet a _

theorem Holds.writePart (hs : Holds c s) {len : Nat} (a : Addr) (lo : Nat) (v : BitVec len) :
    Gives (Holds c) (writePart a lo v s) :=
  hs.modifyMem quiet a _

theorem Holds.returnJump (hs : Holds c s) (a : Addr) : Gives (Past c) (returnJump a s) := by
  intro t h
  rcases returnJump_cases h with ⟨-, rfl⟩ | ⟨-, u, hu, rfl⟩
  · exact hs.advance.setFault 42
  · exact (hs.writePart quiet a 24 _ u hu).goto a .lower

theorem Holds.takeInterrupt (hs : Holds c s) (k : Category) :
    Gives (Holds (c.moved .lower false)) (takeInterrupt k s) := by
  intro t h
  obtain ⟨u, hu, rfl⟩ := takeInterrupt_cases h
  exact (hs.reference quiet hu).enter k

theorem Holds.resolveIn {n : Nat} {b : Desig} {m : Addr} {x : Option Ix × Addr} (hs : Holds c s)
    (h : resolveIn n b m s = .ok (x, t)) : Holds c t := by
  induction n generalizing b m s with
  | zero =>
    cases b with
    | zero => cases h; exact hs
    | ix r => cases h; exact hs
    | seven => cases h
  | succ n ih =>
    cases b with
    | zero => cases h; exact hs
    | ix r => cases h; exact hs
    | seven =>
      simp only [Machine.resolveIn] at h
      split at h
      next hx => exact ih (hs.readMem quiet hx) h
      next => cases h

theorem Holds.effective {b : Desig} {m a : Addr} (hs : Holds c s) (h : effective b m s = .ok (a, t)) :
    Holds c t := by
  unfold Machine.effective at h
  split at h
  next hr => cases h; exact hs.resolveIn quiet hr
  next => cases h

variable {P : State → Prop}

theorem Holds.onResolved (hs : Holds c s) (b : Desig) (m : Addr) {f : Option Ix → Addr → State → Res State}
    (hf : ∀ r a v, Holds c v → Gives P (f r a v)) : Gives P (onResolved b m f s) := by
  unfold Machine.onResolved
  split
  next hr => exact hf _ _ _ (hs.resolveIn quiet hr)
  next => exact gives_error _

theorem Holds.onEffective (hs : Holds c s) (b : Desig) (m : Addr) {f : Addr → State → Res State}
    (hf : ∀ a v, Holds c v → Gives P (f a v)) : Gives P (onEffective b m f s) := by
  unfold Machine.onEffective
  split
  next ha => exact hf _ _ (hs.effective quiet ha)
  next => exact gives_error _

theorem Holds.onOperand (hs : Holds c s) (b : Desig) (m : Addr) {f : Word → State → State}
    (hf : ∀ x v, Holds c v → P (f x v)) : Gives P (onOperand b m f s) := by
  unfold Machine.onOperand operand
  split
  next x v hx =>
    split at hx
    next ha => exact gives_ok.mpr (hf x v ((hs.effective quiet ha).readMem quiet hx))
    next => cases hx
  next => exact gives_error _

theorem Holds.onShift (hs : Holds c s) (b : Desig) (k : Addr) {f : Nat → State → State}
    (hf : ∀ n v, Holds c v → Holds c (f n v)) : Gives (Holds c) (onShift b k f s) := by
  refine hs.onEffective quiet b k fun n v hv => gives_ok.mpr (hf _ _ ?_)
  unfold State.shiftFault
  split
  · exact hv
  · exact hv

end

/-! ### The end of an instruction -/

section
variable {c : Control} {s t u : State}

theorem Control.Between.inv (hc : c.Between) (hs : Holds c s) : s.Inv := by
  obtain ⟨canonical, rfl⟩ := hs
  obtain ⟨held, augment, exit, running, stopped, loading⟩ := hc
  exact ⟨canonical, held, fun h => absurd augment h, fun h => absurd h (Bool.eq_false_iff.mp stopped),
    fun h => absurd h (Bool.eq_false_iff.mp exit), fun h => absurd loading h⟩

theorem Control.Between.moved (hc : c.Between) : (c.moved .lower false).Between :=
  { hc with held := fun _ => rfl }

/-- In the upper half no augment designator is set (spec/10_state.md R36). -/
theorem Control.Executing.augment_upper (hc : c.Executing) (h : c.half = .upper) : c.aug = .none := by
  by_contra set
  have lower := hc.held (hc.augment set)
  simp [h] at lower

/-- The end of the augment designators, where no exit is in progress. -/
theorem Past.endAug (hc : c.Executing) (landed : c.exiting = false) (hs : Past c s) :
    ∃ d, d.Between ∧ Holds d (s.endAug c.half) := by
  obtain ⟨h, held, lower, canonical, moved⟩ := hs
  refine ⟨{ c.moved h held with aug := .none },
    ⟨lower, rfl, landed, hc.running, hc.stopped, hc.loading⟩, ?_⟩
  cases half : c.half with
  | upper =>
    refine ⟨canonical, moved.trans ?_⟩
    rw [← hc.augment_upper half]
    rfl
  | lower => exact ⟨canonical, congrArg (fun d : Control => { d with aug := .none }) moved⟩

/-- The sampling point and an interrupt taken there leave the invariant. -/
theorem complete_inv (hc : c.Executing) (landed : c.exiting = false) (hs : Past c s)
    (h : complete c.half s = .ok t) : t.Inv := by
  obtain ⟨d, hd, ended⟩ := hs.endAug hc landed
  obtain ⟨u, hu, ⟨-, rfl⟩ | ⟨-, ht⟩⟩ := complete_cases h
  · exact hd.inv (ended.reference hd.loading hu)
  · exact hd.moved.inv ((ended.reference hd.loading hu).takeInterrupt hd.loading .one t ht)

theorem Holds.half_eq (hs : Holds c s) : s.half = c.half := congrArg Control.half hs.2

/-- Away from an exit point no exit is in progress. -/
theorem Holds.not_exiting (hc : c.Executing) (hs : Holds c s) (h : s.atExit = false) : c.exiting = false := by
  obtain ⟨-, rfl⟩ := hs
  by_contra exiting
  have inExit : s.ctl.exiting = true := Bool.eq_true_of_not_eq_false exiting
  have upper : s.half = .upper := hc.exit inExit
  simp [State.atExit, inExit, upper] at h

/-- Only the exit in progress and the half that the exit lands in change. -/
theorem Past.exitLand (hu : Past c u) (read : u.uHeld = false) : Past { c with exiting := false } u.exitLand := by
  obtain ⟨h, held, -, canonical, moved⟩ := hu
  have unheld : held = false := (congrArg Control.uHeld moved).symm.trans read
  refine ⟨_, held, fun h => by simp [unheld] at h, canonical,
    congrArg (fun d : Control => { d with half := u.exitLand.half, exiting := false }) moved⟩

theorem Control.Executing.landed (hc : c.Executing) : ({ c with exiting := false } : Control).Executing :=
  { hc with exit := nofun }

variable (hc : c.Executing) (hs : Holds c s)
include hc hs

theorem finish_inv {r : Res State} (hr : Gives (Past c) r) (h : finish s r = .next t) : t.Inv := by
  obtain ⟨u, hu, away, ht⟩ := finish_cases h
  rw [hs.half_eq] at ht
  exact complete_inv hc (hs.not_exiting hc away) (hr u hu) ht

theorem finishSeq_inv {r : Res State} (hr : Gives (Holds c) r) (h : finishSeq s r = .next t) : t.Inv := by
  obtain ⟨u, hu, away, ht⟩ := finishSeq_cases h
  rw [hs.half_eq] at ht
  exact complete_inv hc (hs.not_exiting hc away) (hr u hu).advance ht

theorem finishJump_inv {taken : Bool} (hu : Past c u) (read : taken = true → u.uHeld = false)
    (h : finishJump s taken (.ok u) = .next t) : t.Inv := by
  obtain ⟨v, hv, ⟨away, ht⟩ | ⟨-, jumps, ht⟩⟩ := finishJump_cases h
  · cases hv
    rw [hs.half_eq] at ht
    exact complete_inv hc (hs.not_exiting hc away) hu ht
  · cases hv
    rw [hs.half_eq] at ht
    exact complete_inv hc.landed rfl (hu.exitLand (read jumps)) ht

/-- An interrupt taken in place of an instruction. -/
theorem finish_takeInterrupt_inv (k : Category) (h : finish s (takeInterrupt k s) = .next t) : t.Inv :=
  finish_inv hc hs (fun u hu => ⟨.lower, false, nofun, hs.takeInterrupt hc.loading k u hu⟩) h

/-! ### Jumps and stops -/

theorem condJump_inv {b : Bool} {m : Addr} (h : condJump b m s = .next t) : t.Inv := by
  cases b with
  | false => exact finishJump_inv hc hs (taken := false) hs.advance nofun h
  | true =>
    refine finishJump_inv hc hs (u := normalJump m s.advance s) (hs.normalJump hs m) (fun inside => ?_) h
    rw [normalJump, if_neg (by simpa using inside)]
    rfl

theorem condReturn_inv {b : Bool} {m : Addr} (h : condReturn b m s = .next t) : t.Inv := by
  refine finish_inv hc hs ?_ h
  split
  · exact hs.returnJump hc.loading m
  · exact gives_ok.mpr hs.advance

theorem execIjp_inv {b : Desig} {m : Addr} (h : execIjp b m s = .next t) : t.Inv := by
  unfold execIjp at h
  split at h
  next u hr => exact finishJump_inv hc hs (taken := false) (hs.resolveIn hc.loading hr).advance nofun h
  next r a u hr =>
    have hu : Holds c u := hs.resolveIn hc.loading hr
    split at h
    · cases h
    · split at h
      · exact finishJump_inv hc hs (taken := false) hu.advance nofun h
      · have counted : Holds c (u.setIx r (ocsub (u.ix r) 1)) := hu
        refine finishJump_inv hc hs (counted.normalJump counted a) (fun inside => ?_) h
        rw [normalJump, if_neg (by simpa using inside)]
        rfl
  next => cases h
  next => cases h

/-- The pointer keeps designating the stop instruction, and an exit point it stands at is kept for Go. -/
theorem stop_inv : s.stop.Inv := by
  obtain ⟨canonical, rfl⟩ := hs
  exact ⟨canonical, hc.held, hc.augment, fun _ => rfl, fun h => ⟨rfl, hc.exit h⟩, fun h => absurd hc.loading h⟩

theorem stopElse_inv {j : SwCond} {o : Out} (ho : o = .next t → t.Inv)
    (h : (if s.stopCond j then .next s.stop else o) = .next t) : t.Inv := by
  split at h
  · cases h
    exact stop_inv hc hs
  · exact ho h

end

/-! ### Arithmetic, searches and channels inside an instruction -/

section
variable {c : Control} {s t : State}

@[simp] theorem holds_putA (r : Word × State) : Holds c (putA r) ↔ Holds c r.2 := Iff.rfl
@[simp] theorem holds_setQA (v : BitVec 96) : Holds c (s.setQA v) ↔ Holds c s := Iff.rfl
@[simp] theorem holds_setAQ (v : BitVec 96) : Holds c (s.setAQ v) ↔ Holds c s := Iff.rfl
@[simp] theorem holds_freeWord : Holds c s.freeWord.2 ↔ Holds c s := Iff.rfl
@[simp] theorem holds_freeZero (n : Nat) : Holds c (freeZero n s).2 ↔ Holds c s := Iff.rfl

@[simp] theorem holds_sum (x y : Word) : Holds c (sum x y s).2 ↔ Holds c s := by
  unfold sum
  split <;> simp

@[simp] theorem holds_difference (x y : Word) : Holds c (difference x y s).2 ↔ Holds c s := by
  unfold difference
  split <;> simp

@[simp] theorem holds_multiply (x y : Word) : Holds c (multiply x y s).2 ↔ Holds c s := by
  unfold multiply
  dsimp only
  split <;> simp

@[simp] theorem holds_divide (d : Word) : Holds c (divide d s) ↔ Holds c s := by
  have fault : Holds c s.divideFault ↔ Holds c s := Iff.rfl
  unfold divide
  dsimp only
  split
  · exact fault
  · split
    · exact fault
    · rw [holds_setQ, holds_setA]
      split <;> simp

@[simp] theorem holds_floatingPoint (k : FpKind) (x : Word) : Holds c (floatingPoint k x s) ↔ Holds c s := by
  unfold floatingPoint
  dsimp only
  split_ifs <;> simp

theorem Holds.internalFunction {y : Nat} (hs : Holds c s) (h : internalFunction y s = some t) : Holds c t := by
  unfold Machine.internalFunction at h
  split at h <;> cases h <;> simpa [State.select, State.deselect, State.clearFault, holds_setCtl]

theorem Holds.sendConnect (hs : Holds c s) (x : ChanId) (k : BitVec 12) : Holds c (sendConnect x k s).2 := by
  unfold Machine.sendConnect
  split
  · exact hs
  · dsimp only
    split <;> exact hs

theorem Holds.sendFunction (hs : Holds c s) (x : ChanId) (k : BitVec 12) : Holds c (sendFunction x k s).2 := by
  unfold Machine.sendFunction
  split
  · exact hs
  · split <;> exact hs

theorem Holds.afterReply {r : Reply × State} (hr : Holds c r.2) (n : Addr) : Past c (afterReply n r) := by
  unfold Machine.afterReply
  split
  · exact hr.nextStep
  · exact hr.reject n
  · exact hr.reject n

/-- CONN and EXTF on an installed channel: busy rejects, else the answer of the equipments (R303, R304). -/
theorem Holds.ifBusy (hs : Holds c s) (n : Addr) (k : ChanId) {r : Reply × State} (hr : Holds c r.2) :
    Past c (if (s.chan k).active then Machine.reject n s else Machine.afterReply n r) := by
  split
  · exact hs.reject n
  · exact hr.afterReply n

variable (quiet : c.autoLoading = none)
include quiet

theorem Holds.startChannel (hs : Holds c s) (x : ChanId) (d : Dir) (m : Addr) :
    Gives (Past c) (startChannel x d m s) := by
  unfold Machine.startChannel
  split
  next w u hx =>
    have started : Holds c ((u.setChan x
        { u.chan x with wc := upperAddr w, ca := lowerAddr w, active := true, dir := d }).setEquip
          (onChannel x (fun e => e.device.start d) u.equip)) :=
      (holds_setEquip _).mpr ((holds_setChan x _).mpr (hs.readMem quiet hx))
    exact gives_ok.mpr started.nextStep
  next => exact gives_error _

theorem Holds.replace (hs : Holds c s) (b : Desig) (m : Addr) {f : Word → State → Word × State}
    (hf : ∀ x v, Holds c v → Holds c (f x v).2) : Gives (Holds c) (replace b m f s) := by
  refine hs.onEffective quiet b m fun a v hv => ?_
  split
  next x u hx =>
    have put : Holds c (putA (f x u)) := hf x u (hv.readMem quiet hx)
    exact put.writeMem quiet a _
  next => exact gives_error _

theorem Holds.searchLoop {hit : Word → Bool} {r : Ix} {m : Addr} {n : Nat} {found : Bool} (hs : Holds c s)
    (h : searchLoop hit r m n s = .ok (found, t)) : Holds c t := by
  induction n generalizing s with
  | zero => cases h; exact hs
  | succ n ih =>
    simp only [Machine.searchLoop] at h
    split at h
    next x u hx =>
      have counted : Holds c (s.setIx r (ocsub (s.ix r) 1)) := hs
      have hu : Holds c u := counted.readMem quiet hx
      split at h
      · cases h; exact hu
      · exact ih hu h
    next => cases h

theorem Holds.search (hs : Holds c s) (hit : Word → State → Bool) (b : Desig) (m : Addr) :
    Gives (Past c) (search hit b m s) := by
  refine hs.onResolved quiet b m fun r a v hv => ?_
  cases r with
  | none =>
    dsimp only
    split
    next hx => exact gives_ok.mpr ((hv.readMem quiet hx).skipIf _)
    next => exact gives_error _
  | some i =>
    dsimp only
    split
    · exact gives_error _
    · split
      next hu => exact gives_ok.mpr ((hv.searchLoop quiet hu).skipIf _)
      next => exact gives_error _

theorem Holds.augAddress (hs : Holds c s) (v : Desig) : Gives (Holds c) (augAddress v s) := by
  cases v with
  | zero => exact gives_ok.mpr hs
  | ix r =>
    simp only [Machine.augAddress]
    split
    · exact gives_error _
    · exact gives_ok.mpr hs
  | seven =>
    simp only [Machine.augAddress]
    split
    · exact gives_error _
    · split
      next w u hx =>
        split
        · exact gives_ok.mpr ((holds_setU _).mpr (hs.readMem quiet hx))
        · exact gives_error _
      next => exact gives_error _

end

/-! ### Instructions with a shape of their own -/

section
variable {c : Control} {s t : State} (hc : c.Executing) (hs : Holds c s)
include hc hs

theorem floating_inv {k : FpKind} {b : Desig} {m : Addr} (h : floating k b m s = .next t) : t.Inv := by
  unfold floating at h
  split at h
  · exact finishSeq_inv hc hs (hs.onOperand hc.loading b m fun x v hv => by simpa using hv) h
  · exact finish_takeInterrupt_inv hc hs _ h

theorem execIsk_inv {b : Desig} {y : Addr} (h : execIsk b y s = .next t) : t.Inv := by
  refine finish_inv hc hs (hs.onResolved hc.loading b y fun r k v hv => gives_ok.mpr ?_) h
  unfold indexSkip
  split
  · exact ((holds_setIxOf _ _).mpr hv).nextStep
  · exact ((holds_setIxOf _ _).mpr hv).advance

theorem execSsh_inv {b : Desig} {m : Addr} (h : execSsh b m s = .next t) : t.Inv := by
  refine finish_inv hc hs (hs.onEffective hc.loading b m fun a v hv => ?_) h
  split
  next x u hx =>
    split
    next w hw => exact gives_ok.mpr (((hv.readMem hc.loading hx).writeMem hc.loading a _ w hw).skipIf _)
    next => exact gives_error _
  next => exact gives_error _

theorem execLdc_inv {b p : Desig} {m : Addr} (h : execLdc b p m s = .next t) : t.Inv := by
  refine finish_inv hc hs (hs.onEffective hc.loading b m fun a v hv => ?_) h
  split
  · split
    next hx => exact gives_ok.mpr ((holds_setA _).mpr (hv.readMem hc.loading hx)).nextStep
    next => exact gives_error _
  · exact gives_error _

theorem execStc_inv {b p : Desig} {m : Addr} (h : execStc b p m s = .next t) : t.Inv := by
  refine finish_inv hc hs (hs.onEffective hc.loading b m fun a v hv => ?_) h
  split
  · split
    next x u hx =>
      split
      next w hw => exact gives_ok.mpr ((hv.readMem hc.loading hx).writeMem hc.loading a _ w hw).nextStep
      next => exact gives_error _
    next => exact gives_error _
  · exact gives_error _

theorem execInf_inv {y : Addr} (h : execInf y s = .next t) : t.Inv := by
  refine finishSeq_inv hc hs ?_ h
  split
  next u hu => exact gives_ok.mpr (hs.internalFunction hu)
  next => exact gives_error _

theorem execSen_inv {y : Addr} (h : execSen y s = .next t) : t.Inv := by
  unfold execSen at h
  split at h
  · exact finishSeq_inv hc hs (gives_ok.mpr hs) h
  · split at h
    next k hk => exact finish_inv hc hs (gives_ok.mpr (hs.skipIf k)) h
    next => cases h

/-- AUG leaves its designators over the lower half that U holds, and is refused at an exit point. -/
theorem execAug_inv {v : Desig} {t2 t1 t0 : Bool} (h : execAug v t2 t1 t0 s = .next t) : t.Inv := by
  unfold execAug at h
  split at h
  · exact finishSeq_inv hc hs (gives_ok.mpr hs) h
  next upper =>
    have ended := outcome_eq_next h
    unfold augment at ended
    split at ended
    · cases ended
    next away =>
      have landed := hs.not_exiting hc (Bool.eq_false_iff.mpr away)
      split at ended
      · split at ended
        next u hu =>
          cases ended
          obtain ⟨canonical, same⟩ := hs.augAddress hc.loading v u hu
          obtain ⟨-, rfl⟩ := hs
          have half : u.half = .upper := (congrArg Control.half same).trans upper
          have exiting : u.ctl.exiting = false := (congrArg Control.exiting same).trans landed
          have running : u.running = true := (congrArg Control.running same).trans hc.running
          have awake : u.slsStopped = false := (congrArg Control.slsStopped same).trans hc.stopped
          have loading : u.autoLoading = none := (congrArg Control.autoLoading same).trans hc.loading
          have lower : (u.setAug { t2 := t2, t1 := t1, t0 := t0 }).advance =
              ((u.setAug { t2 := t2, t1 := t1, t0 := t0 }).setHalf .lower).setUHeld true := by
            simp [State.advance, half]
          rw [lower]
          exact ⟨canonical, fun _ => rfl, fun _ => rfl, fun h => by simp [awake] at h,
            fun h => by simp [exiting] at h, fun h => absurd loading h⟩
        next => cases ended
      · cases ended

/-- EUB and ELB: the illegal one is an interrupt, the legal one a write of its register (R288, R289). -/
theorem boundsElse_inv {u : State} (hu : Holds c u)
    (h : (if s.boundsLocked then finish s (takeInterrupt .three s) else finishSeq s (.ok u)) = .next t) : t.Inv := by
  split at h
  · exact finish_takeInterrupt_inv hc hs _ h
  · exact finishSeq_inv hc hs (gives_ok.mpr hu) h

/-! ### The instructions -/

theorem exec_inv (i : Instr) (h : exec i s = .next t) : t.Inv := by
  have quiet := hc.loading
  cases i with
  | iaq | cis | cpr =>
    exact finishSeq_inv hc hs (r := .ok _) (by simpa using hs) h
  | lda b m | ldq b m | lac b m | lqc b m | sst b m | scl b m | scm b m | ssu b m | ldl b m | add b m | adl b m
  | sub b m | sbl b m | mui b m | dvi b m =>
    exact finishSeq_inv hc hs (hs.onOperand quiet b m fun x v hv => by simpa using hv) h
  | sta b m | stq b m | stl b m =>
    exact finishSeq_inv hc hs (hs.onEffective quiet b m fun a v hv => hv.writeMem quiet a _) h
  | sau b m | sal b m =>
    exact finishSeq_inv hc hs (hs.onEffective quiet b m fun a v hv => hv.writePart quiet a _ _) h
  | siu b m | sil b m =>
    exact finishSeq_inv hc hs (hs.onResolved quiet b m fun r a v hv => hv.writePart quiet a _ _) h
  | liu b m | lil b m =>
    refine finishSeq_inv hc hs (hs.onResolved quiet b m fun r a v hv => ?_) h
    split
    next hx => exact gives_ok.mpr ((holds_setIxOf _ _).mpr (hv.readMem quiet hx))
    next => exact gives_error _
  | enq b y | ena b y | ina b y =>
    exact finishSeq_inv hc hs (hs.onEffective quiet b y fun k v hv => by simpa using hv) h
  | eni b y | ini b y => exact finishSeq_inv hc hs (hs.onResolved quiet b y fun r k v hv => by simpa using hv) h
  | ati b =>
    refine finishSeq_inv hc hs ?_ h
    cases b with
    | ix r => exact gives_ok.mpr hs
    | zero | seven => exact gives_error _
  | isk b y => exact execIsk_inv hc hs h
  | ars b k | als b k | qrs b k | qls b k | lrs b k | lls b k =>
    exact finishSeq_inv hc hs (hs.onShift quiet b k fun n v hv => by simpa using hv) h
  | sca b k | scq b k =>
    exact finishSeq_inv hc hs (hs.onResolved quiet b k fun r n v hv => by simpa using hv) h
  | rad b m | rao b m | rsb b m | rso b m =>
    exact finishSeq_inv hc hs (hs.replace quiet b m fun x v hv => by simpa using hv) h
  | ssk b m => exact finish_inv hc hs (hs.onOperand quiet b m fun x v hv => hv.skipIf _) h
  | ssh b m => exact execSsh_inv hc hs h
  | eqs b m | ths b m | meq b m | mth b m => exact finish_inv hc hs (hs.search quiet _ b m) h
  | ajp j m | qjp j m | slj j m => exact condJump_inv hc hs h
  | arj j m | qrj j m | rtj j m => exact condReturn_inv hc hs h
  | ijp b m => exact execIjp_inv hc hs h
  | sls j m => exact stopElse_inv hc hs (condJump_inv hc hs) h
  | srj j m => exact stopElse_inv hc hs (condReturn_inv hc hs) h
  | conn n x k =>
    refine finish_inv hc hs ?_ h
    split
    · exact gives_ok.mpr (hs.ifBusy n _ (hs.sendConnect _ k))
    · exact gives_error _
  | extf n x k =>
    refine finish_inv hc hs ?_ h
    split
    · exact gives_ok.mpr (hs.ifBusy n _ (hs.sendFunction _ k))
    · exact gives_error _
  | begr n x m | begw n x m =>
    refine finish_inv hc hs ?_ h
    split
    · split
      · exact gives_ok.mpr (hs.reject n)
      · exact hs.startChannel quiet _ _ m
    · exact gives_error _
  | copy x | ccwd x =>
    refine finish_inv hc hs ?_ h
    split
    · exact gives_ok.mpr (Holds.nextStep hs)
    · exact gives_error _
  | clch x =>
    refine finish_inv hc hs ?_ h
    split
    · exact gives_ok.mpr ((holds_channelClosed quiet).clearWith _ _ hs).nextStep
    · exact gives_error _
  | sen y => exact execSen_inv hc hs h
  | inf y => exact execInf_inv hc hs h
  | aug v t2 t1 t0 => exact execAug_inv hc hs h
  | eub y => exact boundsElse_inv hc hs (u := s.setBu y) hs h
  | elb y => exact boundsElse_inv hc hs (u := s.setBl y) hs h
  | ldc b p m => exact execLdc_inv hc hs h
  | stc b p m => exact execStc_inv hc hs h
  | fad b m | fsb b m | fmu b m | fdv b m => exact floating_inv hc hs h

/-- The instruction of U, or the Category III interrupt in place of an illegal code. -/
theorem executeU_inv (h : executeU s = .next t) : t.Inv := by
  unfold executeU at h
  split at h
  next i hi => exact exec_inv hc hs i h
  next => exact finish_takeInterrupt_inv hc hs _ h
  next => cases h

end

/-! ### The computer's next instruction -/

section
variable {s t : State}

/-- A running computer is stopped in no SLS, so no exit is in progress, and loads nothing. -/
theorem State.Inv.executing (hs : s.Inv) (running : s.running = true) : s.control.Executing where
  held := hs.held
  augment := hs.augment
  exit h := by simp [hs.stopped (hs.exit h).1] at running
  running := running
  stopped := by
    by_contra stopped
    simp [hs.stopped (Bool.eq_true_of_not_eq_false stopped)] at running
  loading := by
    by_contra loads
    simp [(hs.loading loads).1] at running

/-- Where U holds no half, no augment designator is set. -/
theorem State.Inv.between (hs : s.Inv) (running : s.running = true) (unheld : s.uHeld = false) :
    s.control.Between := by
  have hc := hs.executing running
  refine ⟨hc.held, ?_, ?_, hc.running, hc.stopped, hc.loading⟩
  · by_contra augmented
    simp [hs.augment augmented] at unheld
  · by_contra exiting
    simp [hs.stopped (hs.exit (Bool.eq_true_of_not_eq_false exiting)).1] at running

theorem Control.Between.takeInterrupt_inv {c : Control} (hc : c.Between) (hs : Holds c s)
    (h : (takeInterrupt .one s).outcome = .next t) : t.Inv :=
  hc.moved.inv (hs.takeInterrupt hc.loading .one t (outcome_eq_next h))

theorem Holds.exitCheck {c : Control} (hs : Holds c s) :
    Holds c s.exitCheck ∨ Holds { c with exiting := true } s.exitCheck := by
  obtain ⟨canonical, rfl⟩ := hs
  unfold State.exitCheck
  split
  · exact .inr ⟨canonical, rfl⟩
  · split
    · exact .inr ⟨canonical, rfl⟩
    · exact .inl ⟨canonical, rfl⟩

/-- A step that is entered: an exit point is recognised in the upper half only (R379). -/
theorem Holds.entered {c : Control} (hc : c.Executing) (hs : Holds c s) (w : Word) :
    ∃ d, d.Executing ∧ Holds d (s.entered w) := by
  unfold State.entered
  split
  next upper =>
    rcases Holds.exitCheck ((holds_setU w).mpr hs) with same | exits
    · exact ⟨c, hc, same⟩
    · exact ⟨{ c with exiting := true }, { hc with exit := fun _ => hs.half_eq.symm.trans upper }, exits⟩
  next => exact ⟨c, hc, hs⟩

theorem enterStep_inv (hs : s.Inv) (running : s.running = true) (unheld : s.uHeld = false)
    (h : enterStep s = .next t) : t.Inv := by
  have hc := hs.executing running
  unfold enterStep at h
  split at h
  · exact (hs.between running unheld).takeInterrupt_inv ((holds_setFault 42).mpr hs.holds) h
  · split at h
    next w u hu =>
      obtain ⟨v, hv, ht⟩ := enterWith_cases h
      obtain ⟨d, hd, entered⟩ := (hs.holds.readMem hc.loading hu).entered hc w
      exact executeU_inv hd (entered.reference hd.loading hv) ht
    next => cases h
    next => cases h

theorem runInstruction_inv (hs : s.Inv) (running : s.running = true) (h : runInstruction s = .next t) : t.Inv := by
  unfold runInstruction at h
  split at h
  · exact executeU_inv (hs.executing running) hs.holds h
  next unheld => exact enterStep_inv hs running (Bool.eq_false_iff.mpr unheld) h

theorem State.Inv.halted (hs : s.Inv) : (s.setRunning false).Inv :=
  ⟨hs.memory, hs.held, hs.augment, fun _ => rfl, hs.exit, fun h => ⟨rfl, (hs.loading h).2⟩⟩

theorem instructionParity_inv (hs : s.Inv) (running : s.running = true) (h : instructionParity s = .next t) :
    t.Inv := by
  unfold instructionParity at h
  split at h
  · exact runInstruction_inv hs running h
  next fetches =>
    have hc : s.control.Between := hs.between running (by simp at fetches; exact fetches.1)
    split at h
    next u hu =>
      have faulted : Holds s.control (u.setFault 46) := (holds_setFault 46).mpr (hs.holds.reference hc.loading hu)
      dsimp only at h
      split_ifs at h
      · exact hc.takeInterrupt_inv faulted h
      · cases h
        exact (hc.inv faulted).halted
    next => cases h
    next => cases h

/-! ### The console -/

/-- A computer stopped inside an SLS or SRJ goes on with the jump. -/
theorem State.Inv.resumed (hs : s.Inv) (stopped : s.slsStopped = true) :
    ((s.setRunning true).setSlsStopped false).control.Executing where
  held := hs.held
  augment := hs.augment
  exit h := (hs.exit h).2
  running := rfl
  stopped := rfl
  loading := by
    by_contra loads
    simp [(hs.loading loads).2.1] at stopped

theorem pressGo_inv (hs : s.Inv) (h : pressGo s = .next t) : t.Inv := by
  unfold pressGo at h
  split at h
  next stopped =>
    have hc := hs.resumed stopped
    have holds : Holds _ ((s.setRunning true).setSlsStopped false) := ⟨hs.memory, rfl⟩
    dsimp only at h
    split at h
    · exact condJump_inv hc holds h
    · exact condReturn_inv hc holds h
    · cases h
      exact hs
  next =>
    cases h
    exact hs

/-- The control after an internal master clear, and then while a channel reads for an Auto Load. -/
def Control.cleared (h : Half) (loading : Option ChanId) : Control :=
  { half := h, uHeld := false, aug := .none, exiting := false, running := false, slsStopped := false,
    autoLoading := loading }

theorem Holds.inv_of_cleared {h : Half} {loading : Option ChanId} (hs : Holds (.cleared h loading) s) : s.Inv := by
  obtain ⟨canonical, control⟩ := hs
  simp only [State.control, Control.cleared, Control.mk.injEq] at control
  obtain ⟨-, held, aug, exiting, running, stopped, -⟩ := control
  exact ⟨canonical, fun h => by simp [held] at h, fun h => absurd aug h, fun _ => running,
    fun h => by simp [exiting] at h, fun _ => ⟨running, stopped, aug⟩⟩

/-- Both master clears (R420, R421). -/
theorem State.Inv.masterClears (hs : s.Inv) :
    Holds (.cleared s.internalMasterClear.half none) s.internalMasterClear.externalMasterClear :=
  (holds_channelClosed rfl).externalMasterClear ⟨hs.memory, rfl⟩

theorem State.Inv.systemOn (hs : s.Inv) : s.systemOn.Inv := by
  unfold State.systemOn
  split
  · exact hs
  · exact Holds.inv_of_cleared ((holds_setConsole _).mpr hs.masterClears)

theorem State.Inv.systemOff (hs : s.Inv) : s.systemOff.Inv := by
  unfold State.systemOff
  split
  · obtain ⟨canonical, held, augment, stopped, exit, -⟩ := hs.halted
    exact ⟨canonical, held, augment, stopped, exit, fun h => absurd rfl h⟩
  · exact hs

theorem autoLoad_inv {x : ChanId} {k f : BitVec 12} (hs : s.Inv) (h : autoLoad x k f s = .next t) : t.Inv := by
  unfold autoLoad at h
  split at h
  · dsimp only at h
    split at h
    next u hu =>
      have connected := hs.masterClears.sendConnect x k
      rw [hu] at connected
      split at h
      next v hv =>
        have sent := Holds.sendFunction connected x f
        rw [hv] at sent
        cases h
        obtain ⟨canonical, control⟩ := sent
        exact Holds.inv_of_cleared (loading := some x)
          ⟨canonical, congrArg (fun c : Control => { c with autoLoading := some x }) control⟩
      next => cases h
    next => cases h
  · cases h

/-- The return jump of the Restart switch is a running computer's first step (R423). -/
theorem State.Inv.restart (hs : s.Inv) : s.restart.Inv := by
  have halted : Holds { s.control with running := false, slsStopped := false, autoLoading := none }
      (((s.setRunning false).setSlsStopped false).setAutoLoading none) := ⟨hs.memory, rfl⟩
  have cleared := (holds_channelClosed rfl).externalMasterClear halted
  unfold State.restart
  dsimp only
  generalize State.externalMasterClear _ = t at cleared ⊢
  obtain ⟨canonical, control⟩ := cleared
  have started : Control.Between { Control.cleared .lower none with running := true } :=
    ⟨fun _ => rfl, rfl, rfl, rfl, rfl, rfl⟩
  refine started.inv ⟨Memory.wf_writeWord _ _ _ canonical, ?_⟩
  exact congrArg
    (fun c : Control => { Control.cleared .lower c.autoLoading with running := true, slsStopped := c.slsStopped })
    control

/-! ### The events of the world -/

theorem unlessLocked_inv {o : Out} (hs : s.Inv) (ho : o = .next t → t.Inv) (h : unlessLocked s o = .next t) :
    t.Inv := by
  unfold unlessLocked at h
  split at h
  · cases h
    exact hs
  · exact ho h

theorem ifInstalled_inv {x : ChanId} {u : State} (hs : s.Inv) (hu : u.Inv) (h : ifInstalled s x u = .next t) :
    t.Inv := by
  unfold ifInstalled at h
  cases h
  split
  · exact hu
  · exact hs

theorem handle_inv (e : Event) (hs : s.Inv) (h : handle e s = .next t) : t.Inv := by
  have becomes {u : State} (hu : u.Inv) (hn : .next u = (.next t : Out)) : t.Inv := by
    cases hn
    exact hu
  have registers {u : State} (hu : Holds s.control s → Holds s.control u) : u.Inv := hs.of_holds (hu hs.holds)
  cases e with
  | run =>
    simp only [handle] at h
    split at h
    next running => exact runInstruction_inv hs running h
    next => exact becomes hs h
  | runParity =>
    simp only [handle] at h
    split at h
    next running => exact instructionParity_inv hs running h
    next => exact becomes hs h
  | channel e => exact inv_channelClosed.channelEvent e hs t (outcome_eq_next h)
  | references bs => exact becomes (registers (holds_setInter bs).mpr) h
  | lineTick =>
    refine becomes ?_ h
    split
    · exact registers (holds_setCtl _ rfl).mpr
    · exact hs
  | manualInterrupt =>
    refine unlessLocked_inv hs (becomes ?_) h
    split
    · exact registers (holds_setFault 43).mpr
    · exact hs
  | operandParity => exact becomes (registers (holds_setFault 45).mpr) h
  | outputParity x => exact ifInstalled_inv hs (registers (by simp)) h
  | byteParity x => exact ifInstalled_inv hs (registers (by simp)) h
  | codeParity => exact becomes (registers (holds_setCodeParity true).mpr) h
  | go => exact unlessLocked_inv hs (pressGo_inv hs) h
  | restart => exact unlessLocked_inv hs (becomes hs.restart) h
  | autoLoad x k f => exact unlessLocked_inv hs (autoLoad_inv hs) h
  | systemOn => exact becomes hs.systemOn h
  | systemOff => exact becomes hs.systemOff h
  | internalClear =>
    have cleared : Holds (.cleared s.internalMasterClear.half none) s.internalMasterClear := ⟨hs.memory, rfl⟩
    exact unlessLocked_inv hs (becomes cleared.inv_of_cleared) h
  | jumpSwitch k on => exact unlessLocked_inv hs (becomes (registers (holds_setConsole _).mpr)) h
  | stopSwitch k on => exact unlessLocked_inv hs (becomes (registers (holds_setConsole _).mpr)) h
  | maintenance on => exact becomes (registers (holds_setConsole _).mpr) h
  | endOfRecordSwitch => exact unlessLocked_inv hs (becomes (inv_channelClosed.endOfRecordSwitch hs)) h
  | equipment x n k d => exact ifInstalled_inv hs (inv_channelClosed.equipmentEvent x n k d hs) h
  | powerOn x n => exact ifInstalled_inv hs (registers (holds_setEquip _).mpr) h
  | detach x n => exact becomes (registers (holds_setEquip _).mpr) h

/-- Settles O20: an event is handled, or the computer runs its next instruction. -/
theorem stepKeepsInvariant : Obligations.StepKeepsInvariant := by
  intro s t hs h
  unfold step at h
  split at h
  next e rest henv => exact handle_inv e (hs.of_holds ((holds_setEnv rest).mpr hs.holds)) h
  next =>
    split at h
    next running => exact runInstruction_inv hs running h
    next =>
      cases h
      exact hs

end

end Sys2Proof.Machine
end

section
/-! PROOFS. The decoder reads every instruction from its own words (spec/30_encoding.md R91 to R95). -/

namespace Sys2Proof

/-- A row of the opcode map with a designator and an address. -/
theorem decode_class1 {f : BitVec 6} {mk : Desig → Addr → Instr}
    (row : ∀ h, field h 18 6 = f → decodeHalf h = .instr (mk (.ofBits (field h 15 3)) (field h 0 15)))
    (b : Desig) (m : Addr) : decode (class1 f b m) = .instr (mk b m) := by
  rw [class1, decode, row _ (class1Bits_code f b.bits m), class1Bits_b, class1Bits_m, Desig.ofBits_bits]

theorem decodeHalf_77 {h : HalfWord} (code : field h 18 6 = 0o77#6) : decodeHalf h = decodeClass2 h := by
  rw [decodeHalf, code]
  rfl

theorem decodeWhole_74 {w : Word} (code : field w 42 6 = 0o74#6) : decodeWhole w = decodeClass3 w := by
  rw [decodeWhole, code]
  rfl

/-- Settles O1: one argument for each format. The function code, a literal, picks the row of the decoder; the other
fields are read back from the bits that the encoder writes. -/
theorem decodeInvertsEncode : Obligations.DecodeInvertsEncode := by
  intro i
  cases i with
  | iaq | cis | cpr => rfl
  | ati b =>
    cases b with
    | zero | seven => rfl
    | ix r => cases r <;> rfl
  | ajp j m | arj j m | qjp j m | qrj j m | slj j m | rtj j m | sls j m | srj j m =>
    rw [encode, classJ, decode, decodeHalf, classJBits_code]
    simp
  | sen y | inf y =>
    rw [encode, class2, decode, decodeHalf_77 (class2Bits_code _ y), decodeClass2, class2Bits_sub, class2Bits_y]
    rfl
  | aug v t2 t1 t0 =>
    rw [encode, decode, decodeHalf_77 (classAugBits_code _ _ _), decodeClass2, classAugBits_sub]
    change ite _ _ _ = _
    simp
  | eub y | elb y =>
    rw [encode, decode, decodeHalf_77 (classBoundBits_code _ _), decodeClass2, classBoundBits_sub]
    change ite _ _ _ = _
    simp
  | conn n x c | extf n x c =>
    rw [encode, decode, decodeWhole_74 (class3cBits_code _ _ _ _), decodeClass3, class3cBits_sub]
    change ite _ _ _ = _
    simp
  | begr n x m | begw n x m =>
    rw [encode, decode, decodeWhole_74 (class3mBits_code _ _ _ _), decodeClass3, class3mBits_sub]
    change ite _ _ _ = _
    simp
  | copy x | clch x | ccwd x =>
    rw [encode, decode, decodeWhole_74 (class3xBits_code _ _), decodeClass3, class3xBits_sub]
    change ite _ _ _ = _
    simp
  | ldc b v m | stc b v m =>
    rw [encode, decode, decodeWhole, classCharBits_code]
    simp
  | _ => exact decode_class1 (fun h code => by rw [decodeHalf, code]; rfl) _ _

end Sys2Proof
end

section
/-! PROOFS. A word that decodes to an instruction is that instruction's encoding, and which words are illegal codes
(spec/30_encoding.md R91 to R95, R105, R107). The fields that a row reads or checks cover the word and rebuild it. -/

namespace Sys2Proof

/-! ### A word is its fields -/

/-- Two adjacent fields side by side. -/
theorem field_append_field {n : Nat} (w : BitVec n) (mid lo : Nat) {l1 l2 : Nat} (h : mid = lo + l2) :
    field w mid l1 ++ field w lo l2 = field w lo (l1 + l2) :=
  BitVec.extractLsb'_append_extractLsb'_eq_extractLsb' h

theorem field_field {n : Nat} (w : BitVec n) {lo len i l : Nat} (h : i + l ≤ len) :
    field (field w lo len) i l = field w (lo + i) l := by
  apply BitVec.eq_of_getLsbD_eq
  intro j hj
  have inside : i + j < len := by omega
  simp only [Machine.getLsbD_field, hj, inside, decide_true, Bool.true_and, Nat.add_assoc]

theorem Desig.bits_ofBits (d : BitVec 3) : (Desig.ofBits d).bits = d := by
  revert d
  decide

theorem RegCond.bits_ofBits (j : BitVec 2) : (RegCond.ofBits j).bits = j := by
  revert j
  decide

theorem SwCond.bits_ofBits (j : BitVec 2) : (SwCond.ofBits j).bits = j := by
  revert j
  decide

theorem augBits_augT (t : BitVec 3) : augBits (augT2 t) (augT1 t) (augT0 t) = t := by
  revert t
  decide

/-- A 9-bit function code as a number. -/
theorem field9_toNat {n : Nat} (w : BitVec n) (lo : Nat) :
    (field w lo 9).toNat = 8 * (field w (lo + 3) 6).toNat + (field w lo 3).toNat := by
  simp only [field, BitVec.extractLsb'_toNat, Nat.shiftRight_eq_div_pow, Nat.pow_add, ← Nat.div_div_eq_div_mul]
  omega

theorem field9_eq {n : Nat} {w : BitVec n} {lo c k : Nat} {f : BitVec 9} (code : (field w (lo + 3) 6).toNat = c)
    (sub : (field w lo 3).toNat = k) (hf : 8 * c + k = f.toNat) : field w lo 9 = f :=
  BitVec.eq_of_toNat_eq (by rw [field9_toNat, code, sub, hf])

section Formats
variable {f6 : BitVec 6} {f9 : BitVec 9} {f21 : BitVec 21} {h : HalfWord} {w : Word}

theorem class1Bits_fields (code : field h 18 6 = f6) : class1Bits f6 (field h 15 3) (field h 0 15) = h := by
  rw [class1Bits, ← code, field_append_field h 18 15 rfl, field_append_field h 15 0 rfl]
  exact field_all h

theorem classJBits_fields {r : BitVec 1} (code : field h 18 6 = f6) (ret : field h 17 1 = r) :
    classJBits f6 r (field h 15 2) (field h 0 15) = h := by
  rw [classJBits, ← code, ← ret, field_append_field h 18 17 rfl, field_append_field h 17 15 rfl,
    field_append_field h 15 0 rfl]
  exact field_all h

theorem class2Bits_fields {y : Addr} (code : field h 15 9 = f9) (operand : field h 0 15 = y) :
    class2Bits f9 y = h := by
  rw [class2Bits, ← code, ← operand, field_append_field h 15 0 rfl]
  exact field_all h

theorem classBoundBits_fields (code : field h 15 9 = f9) (zeros : field h 0 7 = 0#7) :
    classBoundBits f9 (field h 7 8) = h := by
  rw [classBoundBits, ← code, ← zeros, field_append_field h 15 7 rfl, field_append_field h 7 0 rfl]
  exact field_all h

theorem classAugBits_fields (code : field h 15 9 = f9) (zeros : field h 3 9 = 0#9) :
    classAugBits f9 (field h 12 3) (field h 0 3) = h := by
  rw [classAugBits, ← code, ← zeros, field_append_field h 15 12 rfl, field_append_field h 12 3 rfl,
    field_append_field h 3 0 rfl]
  exact field_all h

theorem classAtiBits_fields (code : field h 3 21 = f21) : classAtiBits f21 (field h 0 3) = h := by
  rw [classAtiBits, ← code, field_append_field h 3 0 rfl]
  exact field_all h

theorem class3cBits_fields (code : field w 39 9 = f9) (zeros : field w 21 3 = 0#3 ∧ field w 12 6 = 0#6) :
    class3cBits f9 (field w 24 15) (field w 18 3) (field w 0 12) = w := by
  rw [class3cBits, ← code, ← zeros.1, ← zeros.2, field_append_field w 39 24 rfl, field_append_field w 24 21 rfl,
    field_append_field w 21 18 rfl, field_append_field w 18 12 rfl, field_append_field w 12 0 rfl]
  exact field_all w

theorem class3mBits_fields (code : field w 39 9 = f9) (zeros : field w 21 3 = 0#3 ∧ field w 15 3 = 0#3) :
    class3mBits f9 (field w 24 15) (field w 18 3) (field w 0 15) = w := by
  have joined : field w 39 9 ++ field w 24 15 ++ field w 21 3 ++ field w 18 3 ++ field w 15 3 ++ field w 0 15 = w := by
    rw [field_append_field w 39 24 rfl, field_append_field w 24 21 rfl,
      field_append_field w 21 18 rfl, field_append_field w 18 15 rfl, field_append_field w 15 0 rfl]
    exact field_all w
  rwa [code, zeros.1, zeros.2] at joined

theorem class3xBits_fields (code : field w 39 9 = f9) (zeros : field w 21 18 = 0#18 ∧ field w 0 18 = 0#18) :
    class3xBits f9 (field w 18 3) = w := by
  have joined : field w 39 9 ++ field w 21 18 ++ field w 18 3 ++ field w 0 18 = w := by
    rw [field_append_field w 39 21 rfl, field_append_field w 21 18 rfl, field_append_field w 18 0 rfl]
    exact field_all w
  rwa [code, zeros.1, zeros.2] at joined

theorem classCharBits_fields (code : field w 42 6 = f6) (const : field w 15 21 = f21) :
    classCharBits f6 (field w 39 3) (field w 36 3) f21 (field w 0 15) = w := by
  rw [classCharBits, ← code, ← const, field_append_field w 42 39 rfl, field_append_field w 39 36 rfl,
    field_append_field w 36 15 rfl, field_append_field w 15 0 rfl]
  exact field_all w

end Formats

/-! ### A word that decodes holds its instruction's words -/

section
variable {h : HalfWord} {w : Word} {i : Instr}

theorem encode_of_decodeCode00 (hd : decodeCode00 h = .instr i) : encode i = .half h := by
  unfold decodeCode00 at hd
  split at hd
  next word => cases hd; exact congrArg Code.half word.symm
  next =>
    split at hd <;> cases hd
    next const =>
      rw [encode, Desig.bits_ofBits]
      exact congrArg Code.half (classAtiBits_fields const)

theorem encode_of_decodeClass2 (code : (field h 18 6).toNat = 0o77) (hd : decodeClass2 h = .instr i) :
    encode i = .half h := by
  unfold decodeClass2 at hd
  split at hd
  case h_1 sub | h_4 sub =>
    cases hd
    exact congrArg Code.half (class2Bits_fields (field9_eq code sub (by rfl)) rfl)
  case h_2 sub =>
    split at hd <;> cases hd
    next zeros =>
      rw [encode, Desig.bits_ofBits, augBits_augT]
      exact congrArg Code.half (classAugBits_fields (field9_eq code sub (by rfl)) zeros)
  case h_3 sub | h_5 sub =>
    split at hd <;> cases hd
    next zeros => exact congrArg Code.half (class2Bits_fields (field9_eq code sub (by rfl)) zeros)
  case h_6 sub | h_7 sub =>
    split at hd <;> cases hd
    next zeros => exact congrArg Code.half (classBoundBits_fields (field9_eq code sub (by rfl)) zeros)
  case h_8 => cases hd

theorem encode_of_decodeHalf (hd : decodeHalf h = .instr i) : encode i = .half h := by
  unfold decodeHalf at hd
  dsimp only at hd
  split at hd
  case h_1 => exact encode_of_decodeCode00 hd
  case h_19 code | h_20 code | h_61 code | h_62 code =>
    have normal (h : ¬field h 17 1 = 1#1) := (BitVec.eq_zero_or_eq_one _).resolve_right h
    split at hd <;> cases hd <;> rw [encode] <;> simp only [RegCond.bits_ofBits, SwCond.bits_ofBits]
    next ret => exact congrArg Code.half (classJBits_fields (BitVec.eq_of_toNat_eq code) ret)
    next ret => exact congrArg Code.half (classJBits_fields (BitVec.eq_of_toNat_eq code) (normal ret))
  case h_63 code => exact encode_of_decodeClass2 code hd
  all_goals cases hd
  all_goals
    next code =>
      rw [encode, class1, Desig.bits_ofBits]
      exact congrArg Code.half (class1Bits_fields (BitVec.eq_of_toNat_eq code))

theorem encode_of_decodeClass3 (code : (field w 42 6).toNat = 0o74) (hd : decodeClass3 w = .instr i) :
    encode i = .whole w := by
  unfold decodeClass3 at hd
  dsimp only at hd
  split at hd
  case h_1 sub | h_2 sub =>
    split at hd <;> cases hd
    next zeros => exact congrArg Code.whole (class3cBits_fields (field9_eq code sub (by rfl)) zeros)
  case h_3 sub | h_4 sub =>
    split at hd <;> cases hd
    next zeros => exact congrArg Code.whole (class3mBits_fields (field9_eq code sub (by rfl)) zeros)
  case h_5 sub | h_6 sub | h_7 sub =>
    split at hd <;> cases hd
    next zeros => exact congrArg Code.whole (class3xBits_fields (field9_eq code sub (by rfl)) zeros)
  case h_8 => cases hd

theorem encode_of_decodeWhole (hd : decodeWhole w = .instr i) : (encode i).inWord (field w 0 24) = w := by
  unfold decodeWhole at hd
  split at hd
  case h_1 code => rw [encode_of_decodeClass3 code hd, Code.inWord]
  case h_2 code =>
    dsimp only at hd
    split_ifs at hd with ldc stc <;> cases hd <;> rw [encode, Desig.bits_ofBits, Desig.bits_ofBits, Code.inWord]
    · exact classCharBits_fields (BitVec.eq_of_toNat_eq code) ldc
    · exact classCharBits_fields (BitVec.eq_of_toNat_eq code) stc
  case h_3 =>
    rw [encode_of_decodeHalf hd, Code.inWord, field_append_field w 24 0 rfl]
    exact field_all w

end

/-- Settles O2: the fields that a row of the decoder reads, or checks to be zero, are the whole word. -/
theorem encodeInvertsDecode : Obligations.EncodeInvertsDecode :=
  ⟨fun _ _ => encode_of_decodeHalf, fun _ _ => encode_of_decodeWhole⟩

/-! ### The illegal codes -/

theorem decodeCode00_not_illegal (h : HalfWord) : decodeCode00 h ≠ .illegal := by
  unfold decodeCode00
  split_ifs <;> nofun

theorem decodeClass2_illegal_iff (h : HalfWord) : decodeClass2 h = .illegal ↔ (field h 15 3).toNat = 7 := by
  have digit := (field h 15 3).isLt
  unfold decodeClass2
  split
  case h_8 =>
    simp only [imp_false] at *
    exact iff_of_true trivial (by omega)
  all_goals try split
  all_goals exact iff_of_false nofun (by omega)

theorem decodeClass3_illegal_iff (w : Word) : decodeClass3 w = .illegal ↔ (field w 39 3).toNat = 7 := by
  have digit := (field w 39 3).isLt
  unfold decodeClass3
  dsimp only
  split
  case h_8 =>
    simp only [imp_false] at *
    exact iff_of_true trivial (by omega)
  all_goals split
  all_goals exact iff_of_false nofun (by omega)

/-- In the lower half the illegal 9-bit function codes are 26x, 27x and 777. -/
theorem decodeHalf_illegal_iff (h : HalfWord) :
    decodeHalf h = .illegal ↔ (field h 18 6).toNat = 0o26 ∨ (field h 18 6).toNat = 0o27 ∨
      8 * (field h 18 6).toNat + (field h 15 3).toNat = 0o777 := by
  have digit := (field h 15 3).isLt
  unfold decodeHalf
  dsimp only
  split
  case h_1 => exact iff_of_false (decodeCode00_not_illegal h) (by omega)
  case h_19 | h_20 | h_61 | h_62 => split <;> exact iff_of_false nofun (by omega)
  case h_23 | h_24 => exact iff_of_true rfl (by omega)
  case h_63 =>
    rw [decodeClass2_illegal_iff]
    omega
  case h_64 =>
    simp only [imp_false] at *
    exact iff_of_false nofun (by omega)
  all_goals exact iff_of_false nofun (by omega)

/-- In the upper half 747 is one too. -/
theorem decodeWhole_illegal_iff (w : Word) :
    decodeWhole w = .illegal ↔ (field w 42 6).toNat = 0o26 ∨ (field w 42 6).toNat = 0o27 ∨
      8 * (field w 42 6).toNat + (field w 39 3).toNat = 0o777 ∨
      8 * (field w 42 6).toNat + (field w 39 3).toNat = 0o747 := by
  have digit := (field w 39 3).isLt
  unfold decodeWhole
  split
  case h_1 =>
    rw [decodeClass3_illegal_iff]
    omega
  case h_2 =>
    dsimp only
    split_ifs <;> exact iff_of_false nofun (by omega)
  case h_3 =>
    have code : field (field w 24 24) 18 6 = field w 42 6 := field_field w (by omega)
    have sub : field (field w 24 24) 15 3 = field w 39 3 := field_field w (by omega)
    simp only [imp_false] at *
    rw [decodeHalf_illegal_iff, code, sub]
    omega

/-- Settles O4: the decoder's answer for each function code, compared as numbers. -/
theorem illegalCodes : Obligations.IllegalCodes := by
  refine ⟨fun w => ?_, fun w => ?_⟩
  · rw [decodeAt, decodeHalf_illegal_iff, field_field w (by omega), field_field w (by omega)]
    simp only [← BitVec.toNat_inj, field9_toNat]
    rfl
  · rw [decodeAt, decodeWhole_illegal_iff]
    simp only [← BitVec.toNat_inj, field9_toNat]
    rfl

/-- Settles O3: the decoder evaluated on the eight words. -/
theorem manualWords : Obligations.ManualWords := ⟨rfl, rfl, rfl, rfl, rfl, rfl, rfl, rfl⟩

end Sys2Proof
end

section
/-! PROOFS. Indirect addressing: the model's limit on the reads of a chain turns none away that ends, because a longer
chain has read a location twice (spec/30_encoding.md R98; log 13). -/

namespace Sys2Proof.Machine

/-- A resolution that ends within a number of reads ends alike within more. -/
theorem resolveIn_mono {n k : Nat} {b : Desig} {m : Addr} {s t : State} {x : Option Ix × Addr} (le : n ≤ k)
    (h : resolveIn n b m s = .ok (x, t)) : resolveIn k b m s = .ok (x, t) := by
  induction n generalizing b m s k with
  | zero =>
    cases b with
    | zero => rwa [resolveIn_zero] at h ⊢
    | ix r => rwa [resolveIn_ix] at h ⊢
    | seven => cases h
  | succ n ih =>
    obtain ⟨k, rfl⟩ : ∃ j, k = j + 1 := ⟨k - 1, by omega⟩
    cases b with
    | zero => rwa [resolveIn_zero] at h ⊢
    | ix r => rwa [resolveIn_ix] at h ⊢
    | seven =>
      simp only [resolveIn] at h ⊢
      split at h
      next => exact ih (by omega) h
      next => cases h

/-- The addresses from which an indirect reference ends within `n` reads. -/
def endsWithin (s : State) (n : Nat) : Set Addr := { m | ∃ x, resolveIn n .seven m s = .ok (x, s) }

theorem endsWithin_mono {s : State} : Monotone (endsWithin s) :=
  fun _ _ le _ ⟨x, h⟩ => ⟨x, resolveIn_mono le h⟩

theorem card_addr : Nat.card Addr = 32768 := Nat.card_eq_of_equiv_fin (FinEnum.equiv (α := Addr))

section
variable {s : State} (quiet : s.inter = [])
include quiet

theorem resolveIn_seven_iff {n : Nat} {m : Addr} {x : Option Ix × Addr} :
    resolveIn (n + 1) .seven m s = .ok (x, s) ↔ s.installed m = true ∧
      resolveIn n (.ofBits (field (s.mem.readWord m) 15 3)) (lowerAddr (s.mem.readWord m)) s = .ok (x, s) := by
  constructor
  · intro h
    have read := h
    simp only [resolveIn] at read
    split at read
    next hr =>
      have installed := (readMem_quiet quiet hr).2.2
      exact ⟨installed, resolveIn_seven quiet installed ▸ h⟩
    next => cases read
  · rintro ⟨installed, h⟩
    rw [resolveIn_seven quiet installed, h]

theorem mem_endsWithin_succ {n : Nat} {m : Addr} :
    m ∈ endsWithin s (n + 1) ↔ s.installed m = true ∧
      (Desig.ofBits (field (s.mem.readWord m) 15 3) = .seven → lowerAddr (s.mem.readWord m) ∈ endsWithin s n) := by
  simp only [endsWithin, Set.mem_ofPred_eq, resolveIn_seven_iff quiet, exists_and_left]
  refine and_congr_right fun _ => ?_
  cases Desig.ofBits (field (s.mem.readWord m) 15 3) with
  | zero => simp [resolveIn_zero]
  | ix r => simp [resolveIn_ix]
  | seven => simp

/-- Each read that ends a chain which fewer did not end starts from a new address, of which there are 32,768. -/
theorem endsWithin_stable {n : Nat} (h : 32768 ≤ n) : endsWithin s n = endsWithin s 32768 := by
  have grow (i j : Nat) (le : i ≤ j) (same : (endsWithin s i).ncard = (endsWithin s j).ncard) :
      endsWithin s i = endsWithin s j :=
    Set.eq_of_subset_of_ncard_le (endsWithin_mono le) same.ge
  refine (grow _ _ h (Nat.stabilises_of_monotone (f := fun i => (endsWithin s i).ncard) ?_ ?_ ?_ h).symm).symm
  · exact fun i j le => Set.ncard_le_ncard (endsWithin_mono le)
  · exact fun i => (Set.ncard_le_card _).trans card_addr.le
  · intro i same
    have equal := grow i (i + 1) (by omega) same
    have next : endsWithin s (i + 1) = endsWithin s (i + 2) := by
      ext m
      rw [mem_endsWithin_succ quiet, mem_endsWithin_succ quiet, equal]
    exact congrArg Set.ncard next

/-- Every chain that ends does so within 32,768 reads. -/
theorem resolveIn_limit {n : Nat} (h : 32768 ≤ n) {b : Desig} {m : Addr} {x : Option Ix × Addr} :
    resolveIn 32768 b m s = .ok (x, s) ↔ resolveIn n b m s = .ok (x, s) := by
  refine ⟨resolveIn_mono h, fun ends => ?_⟩
  cases b with
  | zero => rwa [resolveIn_zero] at ends ⊢
  | ix r => rwa [resolveIn_ix] at ends ⊢
  | seven =>
    have early : m ∈ endsWithin s 32768 := endsWithin_stable quiet h ▸ ⟨x, ends⟩
    obtain ⟨y, hy⟩ := early
    rw [hy, ← resolveIn_mono h hy, ends]

end

/-- Settles O11: one read of a chain, and the rest of it within the limit. -/
theorem indirectAddressing : Obligations.IndirectAddressing := by
  intro s m quiet
  refine ⟨resolve_zero m s, fun q => resolve_ix q m s, fun r a => ?_⟩
  have limit : s.chainLimit = 32768 + 1 := by simp [State.chainLimit, quiet]
  rw [Resolves, Resolves, resolve, resolve, limit, resolveIn_seven_iff quiet, resolveIn_limit quiet (Nat.le_succ _)]
  rfl

end Sys2Proof.Machine
end

section
/-! PROOFS. Index modification (spec/30_encoding.md R99). -/

namespace Sys2Proof.Machine

/-- Settles O10: the adder gives 77777, its -0, from two operands 77777 only. -/
theorem modifiedAddress : Obligations.ModifiedAddress := by
  intro s r m
  cases r with
  | none => simp [State.modify]
  | some q => simpa [State.modify] using ocadd_eq_allOnes_iff m (s.ix q)

end Sys2Proof.Machine
end

section
/-! PROOFS. Which instruction a step runs, and which comes after it (spec/30_encoding.md R101 to R103). -/

namespace Sys2Proof.Machine

theorem step_idle {s : State} (env : s.env = []) (running : s.running = true) : step s = runInstruction s := by
  simp [step, env, running]

theorem executeU_instr {s : State} {i : Instr} (h : decodeAt s.u s.half = .instr i) : executeU s = exec i s := by
  simp [executeU, h]

@[simp] theorem State.exitCheck_u (s : State) : s.exitCheck.u = s.u := by
  unfold State.exitCheck
  split_ifs <;> rfl

@[simp] theorem State.exitCheck_half (s : State) : s.exitCheck.half = s.half := by
  unfold State.exitCheck
  split_ifs <;> rfl

theorem State.entered_upper {s : State} (w : Word) (h : s.half = .upper) : s.entered w = (s.setU w).exitCheck := by
  simp [State.entered, h]

theorem State.entered_lower {s : State} (w : Word) (h : s.half = .lower) : s.entered w = s.setU w := by
  simp [State.entered, h]

/-- A step that is entered holds its word in U, at the half that is to execute. -/
theorem State.entered_instruction (s : State) (w : Word) : (s.entered w).u = w ∧ (s.entered w).half = s.half := by
  cases h : s.half with
  | upper => simp [State.entered_upper w h, h]
  | lower => simp [State.entered_lower w h, h]

/-- Settles O5: from U at once, or through the step at P, which an upper half enters by the exit check. -/
theorem stepRunsInstruction : Obligations.StepRunsInstruction := by
  intro s i env running
  refine ⟨fun held decoded => ?_, fun unheld quiet inside installed decoded => ?_⟩
  · rw [step_idle env running, runInstruction, if_pos held, executeU_instr decoded]
  · obtain ⟨u, half⟩ := s.entered_instruction (s.mem.readWord s.p)
    have runs : step s = exec i (s.entered (s.mem.readWord s.p)) := by
      rw [step_idle env running, runInstruction, if_neg (by simp [unheld]), enterStep_ready quiet inside installed,
        executeU_instr (by rwa [u, half])]
    exact ⟨fun h => by rw [runs, State.entered_lower _ h], fun h => by rw [runs, State.entered_upper _ h]⟩

theorem State.advance_upper {s : State} (h : s.half = .upper) : s.advance = (s.setHalf .lower).setUHeld true := by
  simp [State.advance, h]

theorem State.advance_lower {s : State} (h : s.half = .lower) : s.advance = s.nextStep := by
  simp [State.advance, h]

/-- Settles O6: the cases of the advance, and of the step after location 77777 the first one. -/
theorem sequentialFlow : Obligations.SequentialFlow := by
  intro s
  refine ⟨State.advance_upper, State.advance_lower, rfl, fun last => ?_⟩
  have next : s.skipLower.p = s.p + 1 := rfl
  rw [next, last]
  rfl

end Sys2Proof.Machine
end

section
/-! PROOFS. The transmission instructions (spec/40_transmission.md R130 to R147) and STL
(spec/42_logical_shift.md R198). -/

namespace Sys2Proof.Machine

/-! ### The operand under AUG (spec/45_character_internal.md R285) -/

theorem State.opnd_eq (s : State) (x : Word) :
    s.opnd x = if s.aug.t2 = true ∧ x.getLsbD 47 = true then ~~~x else x := by
  have sign : x.msb = x.getLsbD 47 := BitVec.msb_eq_getLsbD_last x
  cases h : s.aug.t2 <;> simp [State.opnd, mag, h, sign]

/-! ### Loads -/

/-- An instruction that is a function of its operand, where that function leaves the channel events to come. -/
theorem finishSeq_onOperand {s : State} {b : Desig} {m a : Addr} {f : Word → State → State} (ready : s.Ready)
    (at_a : Effective b m s a) (installed : s.installed a = true)
    (quiet : (f (s.mem.readWord a) s).inter = s.inter) :
    finishSeq s (onOperand b m f s) = .next (s.completed (f (s.mem.readWord a) s).advance) := by
  rw [onOperand_ready ready at_a installed, finishSeq_of ready quiet]

/-- Settles O27: the two writes, then the next instruction in sequence. -/
theorem interchangeAQ : Obligations.InterchangeAQ := fun _ ready => finishSeq_of ready rfl

/-- Settles O28: the four functions of the operand; t2 makes the operand of LDA and LDQ its magnitude. -/
theorem loadRegister : Obligations.LoadRegister := by
  intro s b m a ready at_a installed x y
  have magnitude : s.opnd x = y := s.opnd_eq x
  rw [← magnitude]
  exact ⟨finishSeq_onOperand ready at_a installed rfl, finishSeq_onOperand ready at_a installed rfl,
    finishSeq_onOperand ready at_a installed rfl, finishSeq_onOperand ready at_a installed rfl⟩

/-! ### Stores -/

section
variable {s : State} {a : Addr} (ready : s.Ready)
include ready

/-- An instruction that is one store: out of bounds only bit 42 is set (spec/60_exceptions.md R393). -/
theorem finishSeq_modifyMem_outOfBounds {f : Word → Word} (out : s.outOfBounds a = true) :
    finishSeq s (modifyMem a f s) = .next (s.completed (s.setIntr (s.intr ||| bitWord 42)).advance) := by
  rw [modifyMem_outOfBounds out]
  exact finishSeq_of ready rfl

/-- In bounds the word at the address is replaced, and every byte outside it stays. -/
theorem finishSeq_modifyMem_inBounds {f : Word → Word} (wf : s.mem.wf = true) (inside : s.outOfBounds a = false)
    (installed : s.installed a = true) :
    ∃ v, finishSeq s (modifyMem a f s) = .next (s.completed (s.setMem v).advance) ∧
      v.readWord a = f (s.mem.readWord a) ∧ ∀ k, outsideWord a k → v.readByte k = s.mem.readByte k := by
  rw [modifyMem_ready ready.1 inside installed]
  exact ⟨_, finishSeq_of ready rfl, Memory.writeWord_spec wf⟩

/-- A partial store replaces its bits of the word and no other (spec/20_memory.md R65). -/
theorem finishSeq_writePart_inBounds {len : Nat} {lo : Nat} {w : BitVec len} (fits : lo + len ≤ 48)
    (wf : s.mem.wf = true) (inside : s.outOfBounds a = false) (installed : s.installed a = true) :
    ∃ v, finishSeq s (writePart a lo w s) = .next (s.completed (s.setMem v).advance) ∧
      (∀ j, (v.readWord a).getLsbD j =
        if lo ≤ j ∧ j < lo + len then w.getLsbD (j - lo) else (s.mem.readWord a).getLsbD j) ∧
      ∀ k, outsideWord a k → v.readByte k = s.mem.readByte k := by
  obtain ⟨v, run, word, others⟩ :=
    finishSeq_modifyMem_inBounds (f := fun x => setField x lo w) ready wf inside installed
  exact ⟨v, run, fun j => by rw [word, getLsbD_setField _ _ _ fits], others⟩

end

section
variable {s : State} {b : Desig} {m a : Addr}

theorem exec_sta (at_a : Effective b m s a) : exec (.sta b m) s = finishSeq s (writeMem a (s.opnd s.a) s) :=
  congrArg (finishSeq s) (onEffective_ready at_a)

theorem exec_stq (at_a : Effective b m s a) : exec (.stq b m) s = finishSeq s (writeMem a (s.opnd s.q) s) :=
  congrArg (finishSeq s) (onEffective_ready at_a)

theorem exec_stl (at_a : Effective b m s a) : exec (.stl b m) s = finishSeq s (writeMem a (s.q &&& s.a) s) :=
  congrArg (finishSeq s) (onEffective_ready at_a)

theorem exec_siu {r : Option Ix} (at_a : Resolves b m s r a) :
    exec (.siu b m) s = finishSeq s (writePart a 24 (s.ixOf r) s) :=
  congrArg (finishSeq s) (onResolved_ready at_a)

theorem exec_sil {r : Option Ix} (at_a : Resolves b m s r a) :
    exec (.sil b m) s = finishSeq s (writePart a 0 (s.ixOf r) s) :=
  congrArg (finishSeq s) (onResolved_ready at_a)

theorem exec_sau (at_a : Effective b m s a) :
    exec (.sau b m) s = finishSeq s (writePart a 24 (field s.a 0 15) s) :=
  congrArg (finishSeq s) (onEffective_ready at_a)

theorem exec_sal (at_a : Effective b m s a) :
    exec (.sal b m) s = finishSeq s (writePart a 0 (field s.a 0 15) s) :=
  congrArg (finishSeq s) (onEffective_ready at_a)

end

/-- Settles O29: each is one store at M, of the register's magnitude under t2 or of the logical product. -/
theorem storeRegister : Obligations.StoreRegister := by
  intro s b m a ready wf at_a y stores
  have one (i : Instr) (w : Word) (run : exec i s = finishSeq s (writeMem a w s)) : stores i w := by
    simp only [stores, run]
    exact ⟨finishSeq_modifyMem_outOfBounds ready, finishSeq_modifyMem_inBounds ready wf⟩
  have magnitude (x : Word) : s.opnd x = y x := s.opnd_eq x
  exact ⟨one _ _ (magnitude s.a ▸ exec_sta at_a), one _ _ (magnitude s.q ▸ exec_stq at_a),
    one _ _ (exec_stl at_a)⟩

/-- Settles O31: each is one partial store of 15 bits; where no index register is named its contents are 0. -/
theorem storeAddressPortion : Obligations.StoreAddressPortion := by
  intro s b m a ready wf stores
  have one (i : Instr) (lo : Nat) (w : Addr) (fits : lo + 15 ≤ 48)
      (run : exec i s = finishSeq s (writePart a lo w s)) : stores i lo w := by
    simp only [stores, run]
    exact ⟨finishSeq_modifyMem_outOfBounds ready, finishSeq_writePart_inBounds ready fits wf⟩
  have index (r : Option Ix) (w : Addr) (contents : s.ixOf r = w) (at_a : Resolves b m s r a) :
      stores (.siu b m) 24 w ∧ stores (.sil b m) 0 w := by
    subst contents
    exact ⟨one _ _ _ (by decide) (exec_siu at_a), one _ _ _ (by decide) (exec_sil at_a)⟩
  refine ⟨fun r => index r _ ?_, fun at_a => ?_⟩
  · cases r <;> rfl
  · exact ⟨one _ _ _ (by decide) (exec_sau at_a), one _ _ _ (by decide) (exec_sal at_a)⟩

/-! ### Index registers and entered operands -/

@[simp] theorem State.setIxOf_inter (s : State) (r : Option Ix) (v : Addr) : (s.setIxOf r v).inter = s.inter := by
  cases r <;> rfl

section
variable {s : State} {b : Desig} {m a : Addr} {r : Option Ix} (ready : s.Ready)
include ready

theorem exec_liu (at_a : Resolves b m s r a) (installed : s.installed a = true) :
    exec (.liu b m) s = .next (s.completed (s.setIxOf r (field (s.mem.readWord a) 24 15)).advance) := by
  show finishSeq s (onResolved b m _ s) = _
  rw [onResolved_ready at_a, readMem_ready ready.1 installed]
  exact finishSeq_of ready (s.setIxOf_inter r _)

theorem exec_lil (at_a : Resolves b m s r a) (installed : s.installed a = true) :
    exec (.lil b m) s = .next (s.completed (s.setIxOf r (field (s.mem.readWord a) 0 15)).advance) := by
  show finishSeq s (onResolved b m _ s) = _
  rw [onResolved_ready at_a, readMem_ready ready.1 installed]
  exact finishSeq_of ready (s.setIxOf_inter r _)

theorem exec_eni (at_a : Resolves b m s r a) :
    exec (.eni b m) s = .next (s.completed (s.setIxOf r a).advance) := by
  show finishSeq s (onResolved b m _ s) = _
  rw [onResolved_ready at_a]
  exact finishSeq_of ready (s.setIxOf_inter r _)

theorem exec_ena (at_a : Effective b m s a) :
    exec (.ena b m) s = .next (s.completed (s.setA (sext48 a)).advance) := by
  show finishSeq s (onEffective b m _ s) = _
  rw [onEffective_ready at_a]
  exact finishSeq_of ready rfl

theorem exec_enq (at_a : Effective b m s a) :
    exec (.enq b m) s = .next (s.completed (s.setQ (sext48 a)).advance) := by
  show finishSeq s (onEffective b m _ s) = _
  rw [onEffective_ready at_a]
  exact finishSeq_of ready rfl

end

/-- Settles O30: the word is read in either case, and nothing is written where no index register is named. -/
theorem loadIndex : Obligations.LoadIndex := by
  intro s b m a ready installed
  exact ⟨fun r at_a => ⟨exec_liu ready at_a installed, exec_lil ready at_a installed⟩,
    fun at_a => ⟨exec_liu ready at_a installed, exec_lil ready at_a installed⟩⟩

/-- Sign extension, bit by bit (spec/00_scope.md R11). -/
theorem getLsbD_sext48 (y : Addr) {j : Nat} (h : j < 48) :
    (sext48 y).getLsbD j = if j < 15 then y.getLsbD j else y.getLsbD 14 := by
  rw [sext48, BitVec.getLsbD_signExtend, BitVec.msb_eq_getLsbD_last]
  simp only [h, decide_true, Bool.true_and]

/-- Settles O32: the sign-extended operand for A and Q, the unmodified one for an index register or none. -/
theorem enterRegister : Obligations.EnterRegister := by
  intro s b y k ready
  exact ⟨fun at_k => ⟨sext48 k, fun _ => getLsbD_sext48 k, exec_ena ready at_k, exec_enq ready at_k⟩,
    fun _ at_k => exec_eni ready at_k, fun at_k => exec_eni ready at_k⟩

/-- Settles O33: the index registers one by one, and the two designators that name none. -/
theorem transmitToIndex : Obligations.TransmitToIndex :=
  fun _ ready => ⟨fun _ => finishSeq_of ready rfl, rfl, rfl⟩

end Sys2Proof.Machine
end

section
/-! PROOFS. The integers that one's complement words stand for (spec/00_scope.md R11): their range and sign, the word of
an integer, and the product and the quotient made of them (spec/41_arithmetic.md R164, R165). -/

namespace Sys2Proof.Machine

/-! ### Range and sign -/

theorem natAbs_ocVal_lt {n : Nat} (v : BitVec (n + 1)) : (ocVal v).natAbs < 2 ^ n := by
  have hv := v.isLt
  rw [ocVal_eq]
  split <;> omega

/-- But for the two zeros the sign bit is the sign. -/
theorem msb_eq_of_ocVal_ne_zero {n : Nat} {v : BitVec (n + 1)} (nonzero : ocVal v ≠ 0) :
    v.msb = decide (ocVal v < 0) := by
  have hv := v.isLt
  rw [ocVal_eq] at nonzero ⊢
  rw [BitVec.msb_eq_decide, Nat.add_sub_cancel, decide_eq_decide]
  split at nonzero <;> split <;> omega

/-! ### The word of an integer -/

theorem ocVal_ofNat {n k : Nat} (range : k < 2 ^ n) : ocVal (BitVec.ofNat (n + 1) k) = k := by
  have value : (BitVec.ofNat (n + 1) k).toNat = k := by
    rw [BitVec.toNat_ofNat, Nat.mod_eq_of_lt (by omega)]
  rw [ocVal_eq, value, if_pos range]

theorem ocVal_ocOf {n : Nat} {i : Int} (range : i.natAbs < 2 ^ n) : ocVal (ocOf (n + 1) i) = i := by
  unfold ocOf
  split
  · rw [ocVal_not, ocVal_ofNat range]
    omega
  · rw [ocVal_ofNat range]
    omega

theorem ocVal_zero (n : Nat) : ocVal (0 : BitVec (n + 1)) = 0 := ocVal_ofNat (Nat.two_pow_pos n)

theorem ocVal_allOnes (n : Nat) : ocVal (BitVec.allOnes (n + 1)) = 0 := by
  rw [← BitVec.not_zero, ocVal_not]
  exact neg_eq_zero.mpr (ocVal_zero n)

/-- The word of an integer that a register receives, with the zero of a given sign (R165, of a remainder). -/
def ocOfSigned (n : Nat) (negative : Bool) (i : Int) : BitVec n :=
  if i = 0 then (if negative then BitVec.allOnes n else 0) else ocOf n i

/-- The sign bit of `ocOfSigned` is the given one where a nonzero integer has that sign. -/
theorem ocOfSigned_spec {n : Nat} {negative : Bool} {i : Int} (range : i.natAbs < 2 ^ n)
    (sign : i ≠ 0 → decide (i < 0) = negative) :
    ocVal (ocOfSigned (n + 1) negative i) = i ∧ (ocOfSigned (n + 1) negative i).msb = negative := by
  unfold ocOfSigned
  split
  next zero =>
    cases negative with
    | false => exact ⟨(ocVal_zero n).trans zero.symm, BitVec.msb_zero⟩
    | true => exact ⟨(ocVal_allOnes n).trans zero.symm, by simp [BitVec.msb_allOnes]⟩
  next nonzero =>
    have value : ocVal (ocOf (n + 1) i) = i := ocVal_ocOf range
    refine ⟨value, ?_⟩
    rw [msb_eq_of_ocVal_ne_zero (by rwa [value]), value, sign nonzero]

/-- The word of an integer that a register receives, with a zero of either sign (log 11). -/
def ocOfFree (n : Nat) (i : Int) (s : State) : BitVec n × State := if i = 0 then freeZero n s else (ocOf n i, s)

theorem freeZero_cases (n : Nat) (s : State) : (freeZero n s).1 = 0 ∨ (freeZero n s).1 = BitVec.allOnes n := by
  unfold freeZero
  dsimp only
  split
  · exact .inr rfl
  · exact .inl rfl

/-- Of the state `ocOfFree` changes at most the counter of the free choices. -/
theorem ocOfFree_spec {n : Nat} {i : Int} (range : i.natAbs < 2 ^ n) (s : State) :
    ∃ w c, ocOfFree (n + 1) i s = (w, s.setFreeCount c) ∧ ocVal w = i ∧
      (i = 0 → w = 0 ∨ w = BitVec.allOnes (n + 1)) := by
  unfold ocOfFree
  split
  next zero =>
    refine ⟨(freeZero (n + 1) s).1, s.freeCount + 1, rfl, ?_, fun _ => freeZero_cases _ s⟩
    rcases freeZero_cases (n + 1) s with plus | minus
    · rw [plus, ocVal_zero, zero]
    · rw [minus, ocVal_allOnes, zero]
  next nonzero => exact ⟨_, s.freeCount, rfl, ocVal_ocOf range, fun zero => absurd zero nonzero⟩

/-! ### The product -/

/-- A product of two 48-bit words is in the range of 96 bits. -/
theorem multiply_spec (x y : Word) (s : State) :
    ∃ w c, multiply x y s = (w, s.setFreeCount c) ∧ ocVal w = ocVal x * ocVal y ∧
      (ocVal x * ocVal y = 0 → w = 0 ∨ w = BitVec.allOnes 96) := by
  have range : (ocVal x * ocVal y).natAbs < 2 ^ 95 := by
    have factors : (ocVal x).natAbs * (ocVal y).natAbs < 2 ^ 47 * 2 ^ 47 :=
      Nat.mul_lt_mul'' (natAbs_ocVal_lt x) (natAbs_ocVal_lt y)
    rw [Int.natAbs_mul]
    omega
  exact ocOfFree_spec range s

/-- QA holds a 96-bit word as its halves. -/
theorem setQA_spec (s : State) (w : BitVec 96) :
    ∃ q' a' : Word, s.setQA w = (s.setQ q').setA a' ∧ (q' ++ a' : BitVec 96) = w ∧ (w = 0 → q' = 0 ∧ a' = 0) ∧
      (w = BitVec.allOnes 96 → q' = BitVec.allOnes 48 ∧ a' = BitVec.allOnes 48) := by
  refine ⟨_, _, rfl, BitVec.extractLsb'_append_extractLsb' (w := 48), ?_, ?_⟩
  · rintro rfl
    decide
  · rintro rfl
    decide

/-! ### The quotient and the remainder -/

/-- A truncated division's nonzero remainder has the dividend's sign. -/
theorem tmod_neg_iff {n d : Int} (nonzero : n.tmod d ≠ 0) : n.tmod d < 0 ↔ n < 0 := by
  have inexact : ¬d ∣ n := fun h => nonzero (Int.tmod_eq_zero_of_dvd h)
  have sign : (n.tmod d).sign = n.sign := by rw [Int.sign_tmod, if_neg inexact]
  rw [← Int.sign_eq_neg_one_iff_neg, sign, Int.sign_eq_neg_one_iff_neg]

theorem State.qa_msb (s : State) : s.qa.msb = s.q.getLsbD 47 := by
  rw [State.qa, BitVec.msb_append, if_neg (by decide)]
  exact BitVec.msb_eq_getLsbD_last s.q

theorem divide_fault {d : Word} {s : State}
    (fault : ocVal d = 0 ∨ 2 ^ 47 ≤ ((ocVal s.qa).tdiv (ocVal d)).natAbs) : divide d s = s.divideFault := by
  unfold divide
  dsimp only
  split
  next => rfl
  next nonzero => exact if_pos (fault.resolve_left nonzero)

theorem divide_quotient {d : Word} {s : State} (nonzero : ocVal d ≠ 0)
    (range : ((ocVal s.qa).tdiv (ocVal d)).natAbs < 2 ^ 47) :
    divide d s =
      ((ocOfFree 48 ((ocVal s.qa).tdiv (ocVal d)) s).2.setA (ocOfFree 48 ((ocVal s.qa).tdiv (ocVal d)) s).1).setQ
        (ocOfSigned 48 s.qa.msb ((ocVal s.qa).tmod (ocVal d))) := by
  unfold divide
  dsimp only
  rw [if_neg nonzero, if_neg (Nat.not_le_of_lt range)]
  rfl

/-- Where there is no divide fault the two words are those of R165. -/
theorem divide_spec {d : Word} {s : State} (nonzero : ocVal d ≠ 0)
    (range : ((ocVal s.qa).tdiv (ocVal d)).natAbs < 2 ^ 47) :
    ∃ (q' a' : Word) (c : Nat), divide d s = ((s.setFreeCount c).setA a').setQ q' ∧
      ocVal s.qa = ocVal a' * ocVal d + ocVal q' ∧ (ocVal q').natAbs < (ocVal d).natAbs ∧
      q'.getLsbD 47 = s.q.getLsbD 47 := by
  obtain ⟨quotient, c, run, quotientVal, -⟩ := ocOfFree_spec (n := 47) range s
  have small : ((ocVal s.qa).tmod (ocVal d)).natAbs < (ocVal d).natAbs := by
    rw [Int.natAbs_tmod]
    exact Nat.mod_lt _ (Int.natAbs_pos.mpr nonzero)
  have sign (h : (ocVal s.qa).tmod (ocVal d) ≠ 0) : decide ((ocVal s.qa).tmod (ocVal d) < 0) = s.qa.msb := by
    have dividend : ocVal s.qa ≠ 0 := fun zero => h (by rw [zero, Int.zero_tmod])
    rw [msb_eq_of_ocVal_ne_zero (n := 95) dividend, decide_eq_decide]
    exact tmod_neg_iff h
  obtain ⟨remainderVal, remainderSign⟩ := ocOfSigned_spec (n := 47) (small.trans (natAbs_ocVal_lt d)) sign
  refine ⟨ocOfSigned 48 s.qa.msb ((ocVal s.qa).tmod (ocVal d)), quotient, c, ?_, ?_, ?_, ?_⟩
  · rw [divide_quotient nonzero range, run]
  · rw [quotientVal, remainderVal, Int.tdiv_mul_add_tmod]
  · rwa [remainderVal]
  · rw [← State.qa_msb]
    exact (BitVec.msb_eq_getLsbD_last _).symm.trans remainderSign

end Sys2Proof.Machine
end

section
/-! PROOFS. The arithmetic instructions (spec/41_arithmetic.md R160 to R182) with ADL and SBL
(spec/42_logical_shift.md R196, R197), and the Category II interrupt (spec/60_exceptions.md R380). -/

namespace Sys2Proof.Machine

/-! ### Sums and differences -/

@[simp] theorem putA_sum_inter (x y : Word) (s : State) : (putA (sum x y s)).inter = s.inter := by
  unfold sum
  split <;> rfl

@[simp] theorem putA_difference_inter (x y : Word) (s : State) : (putA (difference x y s)).inter = s.inter := by
  unfold difference
  split <;> rfl

section
variable {s : State} {b : Desig} {m a : Addr} (ready : s.Ready) (at_a : Effective b m s a)
include ready at_a

theorem exec_ina : exec (.ina b m) s = .next (s.completed (putA (sum s.a (sext48 a) s)).advance) := by
  show finishSeq s (onEffective b m _ s) = _
  rw [onEffective_ready at_a]
  exact finishSeq_of ready (putA_sum_inter _ _ s)

variable (installed : s.installed a = true)
include installed

theorem exec_add :
    exec (.add b m) s = .next (s.completed (putA (sum s.a (s.opnd (s.mem.readWord a)) s)).advance) :=
  finishSeq_onOperand ready at_a installed (putA_sum_inter _ _ s)

theorem exec_sub :
    exec (.sub b m) s = .next (s.completed (putA (difference s.a (s.opnd (s.mem.readWord a)) s)).advance) :=
  finishSeq_onOperand ready at_a installed (putA_difference_inter _ _ s)

theorem exec_adl :
    exec (.adl b m) s = .next (s.completed (putA (sum s.a (s.q &&& s.mem.readWord a) s)).advance) :=
  finishSeq_onOperand ready at_a installed (putA_sum_inter _ _ s)

theorem exec_sbl :
    exec (.sbl b m) s = .next (s.completed (putA (difference s.a (s.q &&& s.mem.readWord a) s)).advance) :=
  finishSeq_onOperand ready at_a installed (putA_difference_inter _ _ s)

/-- An instruction that is a function of its operand, with what that function gives. -/
theorem finishSeq_onOperand_of {f : Word → State → State} {t : State} (result : f (s.mem.readWord a) s = t)
    (quiet : t.inter = s.inter) : finishSeq s (onOperand b m f s) = .next (s.completed t.advance) := by
  subst result
  exact finishSeq_onOperand ready at_a installed quiet

end

/-- What holds of every sum and every difference that goes to A holds of the five additions and subtractions of A. -/
theorem additions_of {s : State} {b : Desig} {m a : Addr} (ready : s.Ready) (at_a : Effective b m s a)
    {does : Instr → Int → Word → Prop}
    (sums : ∀ i z, exec i s = .next (s.completed (putA (sum s.a z s)).advance) → does i 1 z)
    (differences : ∀ i z, exec i s = .next (s.completed (putA (difference s.a z s)).advance) → does i (-1) z) :
    (s.installed a = true →
      does (.add b m) 1 (s.opnd (s.mem.readWord a)) ∧ does (.sub b m) (-1) (s.opnd (s.mem.readWord a)) ∧
      does (.adl b m) 1 (s.q &&& s.mem.readWord a) ∧ does (.sbl b m) (-1) (s.q &&& s.mem.readWord a)) ∧
    does (.ina b m) 1 (sext48 a) := by
  refine ⟨fun installed => ⟨?_, ?_, ?_, ?_⟩, ?_⟩
  · exact sums _ _ (exec_add ready at_a installed)
  · exact differences _ _ (exec_sub ready at_a installed)
  · exact sums _ _ (exec_adl ready at_a installed)
  · exact differences _ _ (exec_sbl ready at_a installed)
  · exact sums _ _ (exec_ina ready at_a)

/-- Settles O34: the adder is exact within the range; it gives -0 from -0 + -0 and from -0 - +0 only. -/
theorem addWithinRange : Obligations.AddWithinRange := by
  intro s b m a ready at_a x y forms
  have magnitude : s.opnd x = y := s.opnd_eq x
  rw [← magnitude]
  refine additions_of ready at_a (fun i z run range => ?_) (fun i z run range => ?_)
  · rw [one_mul] at range ⊢
    rw [sum_within range] at run
    exact ⟨ocadd s.a z, run, ocVal_ocadd (n := 47) _ _ range, ocadd_eq_allOnes_iff _ _⟩
  · rw [neg_one_mul, ← sub_eq_add_neg] at range ⊢
    rw [difference_within range] at run
    exact ⟨ocsub s.a z, run, ocVal_ocsub (n := 47) _ _ range, ocsub_eq_allOnes_iff _ _⟩

/-- Settles O35: the overflow fault and the free word, of a sum and of a difference. -/
theorem addOverflow : Obligations.AddOverflow := by
  intro s b m a ready at_a x y faults
  have magnitude : s.opnd x = y := s.opnd_eq x
  rw [← magnitude]
  refine additions_of ready at_a (fun i z run outside => ?_) (fun i z run outside => ?_)
  · rw [one_mul] at outside
    rw [sum_outside outside] at run
    exact ⟨_, run⟩
  · rw [neg_one_mul, ← sub_eq_add_neg] at outside
    rw [difference_outside outside] at run
    exact ⟨_, run⟩

/-! ### Multiplication and division -/

/-- Settles O36: the 96-bit product, put into QA as its halves. -/
theorem multiplyInteger : Obligations.MultiplyInteger := by
  intro s b m a ready at_a installed x y
  have magnitude : s.opnd x = y := s.opnd_eq x
  obtain ⟨w, n, product, value, zero⟩ := multiply_spec s.a y s
  obtain ⟨q', a', put, halves, plus, minus⟩ := setQA_spec (s.setFreeCount n) w
  refine ⟨q', a', n, ?_, by rw [halves, value], fun h => (zero h).imp plus minus⟩
  refine finishSeq_onOperand_of ready at_a installed ?_ rfl
  show (multiply s.a (s.opnd x) s).2.setQA (multiply s.a (s.opnd x) s).1 = _
  rw [magnitude, product, put]

/-- Settles O37: the words of the truncated division. -/
theorem divideInteger : Obligations.DivideInteger := by
  intro s b m a ready at_a installed x y n nonzero range
  have magnitude : s.opnd x = y := s.opnd_eq x
  obtain ⟨q', a', c, quotient, words⟩ := divide_spec (s := s) nonzero range
  exact ⟨q', a', c, finishSeq_onOperand_of ready at_a installed (magnitude ▸ quotient) rfl, words⟩

/-- Settles O38: either cause leads to the one divide fault. -/
theorem divideFault : Obligations.DivideFault := by
  intro s b m a ready at_a installed x y fault
  have magnitude : s.opnd x = y := s.opnd_eq x
  have faults : divide y s = s.divideFault := divide_fault fault
  exact ⟨_, _, finishSeq_onOperand_of ready at_a installed (magnitude ▸ faults) rfl⟩

/-! ### Floating point -/

/-- The bit that a fault sets under a condition. -/
def faultIf (n : Nat) (c : Bool) : Word := if c then bitWord n else 0

theorem setFault_ite (s : State) (n : Nat) (p : Prop) [Decidable p] :
    (if p then s.setFault n else s) = s.setIntr (s.intr ||| faultIf n (decide p)) := by
  by_cases h : p
  · simp [h, faultIf, State.setFault]
  · simp only [h, if_false, faultIf, decide_false, Bool.false_eq_true, BitVec.ofNat_eq_ofNat, BitVec.or_zero]
    rfl

theorem getLsbD_faultIf {n : Nat} (hn : n < 48) (c : Bool) (j : Nat) : (faultIf n c).getLsbD j = (j == n && c) := by
  cases c with
  | false => simp [faultIf]
  | true => simp [faultIf, getLsbD_bitWord n j hn, beq_eq_decide]

/-- A floating point operation writes its two results and sets its three fault bits. -/
theorem floatingPoint_spec (k : FpKind) (x : Word) (s : State) :
    let r := Config.fp k s.a x s.aug.t0 s.aug.t1
    ∃ w : Word, floatingPoint k x s = ((s.setA r.a).setQ r.q).setIntr w ∧
      ∀ n, w.getLsbD n = (s.intr.getLsbD n || (n == 4 && decide (0o1777 < r.exponent)) ||
        (n == 5 && decide (r.exponent < -0o1777)) || (n == 2 && k == .div && Config.fpIsZero x)) := by
  intro r
  have divisor : decide (k = .div ∧ Config.fpIsZero x = true) = (k == .div && Config.fpIsZero x) := by
    rw [Bool.decide_and, Bool.decide_eq_true]
    rfl
  refine ⟨s.intr ||| faultIf 4 (decide (0o1777 < r.exponent)) ||| faultIf 5 (decide (r.exponent < -0o1777)) |||
    faultIf 2 (k == .div && Config.fpIsZero x), ?_, fun n => ?_⟩
  · simp only [floatingPoint, setFault_ite, divisor]
    rfl
  · simp only [BitVec.getLsbD_or, getLsbD_faultIf (show 4 < 48 by decide), getLsbD_faultIf (show 5 < 48 by decide),
      getLsbD_faultIf (show 2 < 48 by decide), Bool.and_assoc]

/-- Settles O39: with the option each is its operation on the operand. -/
theorem floatingPoint_with_option : Obligations.FloatingPoint := by
  intro s b m a ready option at_a installed x y does
  have magnitude : s.opnd x = y := s.opnd_eq x
  have one (i : Instr) (k : FpKind) (run : exec i s = floating k b m s) : does i k := by
    obtain ⟨w, result, bits⟩ := floatingPoint_spec k y s
    refine ⟨w, ?_, fun n _ => bits n⟩
    rw [run, floating, if_pos option]
    exact finishSeq_onOperand_of ready at_a installed (magnitude ▸ result) rfl
  exact ⟨one _ _ rfl, one _ _ rfl, one _ _ rfl, one _ _ rfl⟩

/-- The entry of Category II: the step that holds the next instruction is the same one after an upper instruction and
the following one after a lower. -/
theorem State.enter_two (s : State) (k : FpKind) :
    s.enter (.two k) =
      (((((s.setCtl { s.ctl with mode2 := true, exit2 := decide (s.half = .upper), cat2Addr := fixedLocation k }).setMem
        (s.mem.writeWord (fixedLocation k)
          (setField (s.mem.readWord (fixedLocation k)) 24 (if s.half = .upper then s.p else s.p + 1)))).setP
        (fixedLocation k)).setHalf .lower).setUHeld false) := by
  cases h : s.half with
  | upper =>
    simp only [State.enter, State.advance_upper h]
    rfl
  | lower =>
    simp only [State.enter, State.advance_lower h]
    rfl

/-- Settles O14: without the option the entry stands in the operation's place. -/
theorem categoryTwoEntry : Obligations.CategoryTwoEntry := by
  intro s b m ready option enter
  have one (i : Instr) (k : FpKind) (run : exec i s = floating k b m s) :
      exec i s = .next (s.completed (enter (fixedLocation k))) := by
    rw [run, floating, if_neg (by simp [option]), takeInterrupt_ready _ ready.1, State.enter_two]
    exact finish_of ready rfl
  exact ⟨one _ .add rfl, one _ .sub rfl, one _ .mul rfl, one _ .div rfl⟩

/-! ### Index registers -/

section
variable {s : State} {b : Desig} {y k : Addr} {r : Option Ix} (ready : s.Ready) (at_k : Resolves b y s r k)
include ready at_k

theorem exec_ini : exec (.ini b y) s = .next (s.completed (s.setIxOf r (ocadd (s.ixOf r) k)).advance) := by
  show finishSeq s (onResolved b y _ s) = _
  rw [onResolved_ready at_k]
  exact finishSeq_of ready (s.setIxOf_inter r _)

theorem exec_isk_equal (equal : s.ixOf r = k) : exec (.isk b y) s = .next (s.completed (s.setIxOf r 0).nextStep) := by
  show finish s (onResolved b y _ s) = _
  rw [onResolved_ready at_k, indexSkip, if_pos equal]
  exact finish_of ready (s.setIxOf_inter r _)

theorem exec_isk_unequal (unequal : s.ixOf r ≠ k) :
    exec (.isk b y) s = .next (s.completed (s.setIxOf r (ocadd (s.ixOf r) 1)).advance) := by
  show finish s (onResolved b y _ s) = _
  rw [onResolved_ready at_k, indexSkip, if_neg unequal]
  exact finish_of ready (by simp)

end

/-- Settles O40: the laws of INI and ISK at a named register, and where none is named, whose contents are 0. -/
theorem indexArithmetic : Obligations.IndexArithmetic := by
  intro s b y k ready
  refine ⟨fun r at_k => ⟨?_, ?_, ?_⟩, fun at_k => ⟨?_, fun zero => ?_, fun nonzero => ?_⟩⟩
  · exact exec_ini ready at_k
  · exact exec_isk_equal ready at_k
  · exact exec_isk_unequal ready at_k
  · exact exec_ini ready at_k
  · exact exec_isk_equal ready at_k zero.symm
  · exact exec_isk_unequal ready at_k nonzero.symm

end Sys2Proof.Machine
end

section
/-! PROOFS. The logical, shift and scale instructions (spec/42_logical_shift.md R191 to R212). -/

namespace Sys2Proof.Machine

/-! ### Circular shifts -/

/-- A left circular shift moves bit `i` up by the count, modulo the width. -/
theorem getLsbD_rotateLeft_place {w : Nat} (x : BitVec w) (c : Nat) {i : Nat} (hi : i < w) :
    (x.rotateLeft c).getLsbD ((i + c) % w) = x.getLsbD i := by
  have hr : c % w < w := Nat.mod_lt _ (by omega)
  rw [← BitVec.rotateLeft_mod_eq_rotateLeft, ← Nat.add_mod_mod, BitVec.getLsbD_rotateLeft_of_le hr]
  generalize c % w = r at hr ⊢
  by_cases wraps : i + r < w
  · rw [Nat.mod_eq_of_lt wraps]
    simp [wraps]
  · have place : (i + r) % w = i + r - w := by
      rw [Nat.mod_eq_sub_mod (by omega), Nat.mod_eq_of_lt (by omega)]
    have below : i + r - w < r := by omega
    have source : w - r + (i + r - w) = i := by omega
    rw [place, decide_eq_true below, cond_true, source]

theorem rotateLeft_rotateLeft {w : Nat} (x : BitVec w) (c d : Nat) :
    (x.rotateLeft c).rotateLeft d = x.rotateLeft (c + d) := by
  refine BitVec.eq_of_getLsbD_eq fun i hi => ?_
  obtain ⟨j, hj, rfl⟩ : ∃ j < w, (j + (c + d)) % w = i := by
    have hr : (c + d) % w < w := Nat.mod_lt _ (by omega)
    refine ⟨(i + (w - (c + d) % w)) % w, Nat.mod_lt _ (by omega), ?_⟩
    rw [Nat.mod_add_mod, ← Nat.add_mod_mod, Nat.add_assoc, Nat.sub_add_cancel hr.le, Nat.add_mod_right,
      Nat.mod_eq_of_lt hi]
  have twice : (j + (c + d)) % w = ((j + c) % w + d) % w := by rw [Nat.mod_add_mod, Nat.add_assoc]
  have inside : (j + c) % w < w := Nat.mod_lt _ (by omega)
  rw [getLsbD_rotateLeft_place x _ hj, twice, getLsbD_rotateLeft_place _ d inside, getLsbD_rotateLeft_place x c hj]

theorem rotateLeft_zero {w : Nat} (x : BitVec w) : x.rotateLeft 0 = x := by
  refine BitVec.eq_of_getLsbD_eq fun i hi => ?_
  simpa [Nat.mod_eq_of_lt hi] using getLsbD_rotateLeft_place x 0 hi

theorem iterate_rotateLeft_one {w : Nat} (x : BitVec w) (c : Nat) :
    (fun y : BitVec w => y.rotateLeft 1)^[c] x = x.rotateLeft c := by
  induction c with
  | zero => exact (rotateLeft_zero x).symm
  | succ c ih => rw [Function.iterate_succ_apply', ih, rotateLeft_rotateLeft]

/-- A right shift moves the bits down by the count and extends the sign. -/
theorem getLsbD_sshiftRight_place {w : Nat} (x : BitVec w) (c : Nat) {i : Nat} (hi : i < w) :
    (x.sshiftRight c).getLsbD i = if i + c ≤ w - 1 then x.getLsbD (i + c) else x.getLsbD (w - 1) := by
  have within : c + i < w ↔ i + c ≤ w - 1 := by omega
  rw [BitVec.getLsbD_sshiftRight, BitVec.msb_eq_getLsbD_last, decide_eq_false (by omega), Bool.not_false,
    Bool.true_and, Nat.add_comm i c]
  simp only [within, Nat.add_comm]

/-! ### Scaling (R210) -/

/-- The bit next to the sign bit differs from it after `j` places. -/
def ScaledAfter {w : Nat} (x : BitVec w) (j : Nat) : Prop :=
  (x.rotateLeft j).getLsbD (w - 1) ≠ (x.rotateLeft j).getLsbD (w - 2)

/-- The number of places by which a word is scaled under a count `c`. -/
def ScalePlaces {w : Nat} (c : Nat) (x : BitVec w) (n : Nat) : Prop :=
  if x = 0 ∨ x = BitVec.allOnes w then n = 0
  else n ≤ c ∧ (∀ j, j < n → ¬ScaledAfter x j) ∧ (n = c ∨ ScaledAfter x n)

/-- The loop stops at the first of its rotations that is scaled, or with the count used up. -/
theorem scaleLoop_eq {w : Nat} (c : Nat) (x : BitVec w) :
    ∃ n, scaleLoop c x = (x.rotateLeft n, c - n) ∧ n ≤ c ∧ (∀ j, j < n → ¬ScaledAfter x j) ∧
      (n = c ∨ ScaledAfter x n) := by
  obtain ⟨n, le, left, word, before, stop⟩ := scaleLoop_spec c x
  simp only [iterate_rotateLeft_one] at word before stop
  exact ⟨n, Prod.ext word left, le, fun j hj scaled => scaled (before j hj), stop⟩

/-- To subtract the places from the low 7 bits of k is to subtract them from k (log 33). -/
theorem residue_append {k : Addr} {n : Nat} (le : n ≤ shiftCount k) :
    field k 7 8 ++ BitVec.ofNat 7 (shiftCount k - n) = k - BitVec.ofNat 15 n := by
  have hk := k.isLt
  rw [shiftCount_eq] at le ⊢
  have high : (field k 7 8).toNat = k.toNat / 128 := by
    rw [field, BitVec.extractLsb'_toNat, Nat.shiftRight_eq_div_pow, Nat.mod_eq_of_lt (by omega)]
  have low : (BitVec.ofNat 7 (k.toNat % 128 - n)).toNat = k.toNat % 128 - n := by
    rw [BitVec.toNat_ofNat, Nat.mod_eq_of_lt (by omega)]
  have places : (BitVec.ofNat 15 n).toNat = n := by rw [BitVec.toNat_ofNat, Nat.mod_eq_of_lt (by omega)]
  refine BitVec.eq_of_toNat_eq ?_
  rw [BitVec.toNat_append, ← Nat.shiftLeft_add_eq_or_of_lt (BitVec.isLt _), high, low, Nat.shiftLeft_eq,
    BitVec.toNat_sub_of_le (by rw [BitVec.le_def]; omega), places]
  omega

theorem scale_spec {w : Nat} (x : BitVec w) (k : Addr) :
    ∃ n, ScalePlaces (k.toNat % 128) x n ∧ scale x k = (x.rotateLeft n, k - BitVec.ofNat 15 n) := by
  by_cases zero : x = 0 ∨ x = BitVec.allOnes w
  · refine ⟨0, by simp only [ScalePlaces, if_pos zero], ?_⟩
    rw [scale, if_pos zero, rotateLeft_zero]
    exact congrArg (x, ·) (BitVec.sub_zero k).symm
  · obtain ⟨n, run, le, places⟩ := scaleLoop_eq (shiftCount k) x
    refine ⟨n, ?_, ?_⟩
    · rw [ScalePlaces, if_neg zero, ← shiftCount_eq]
      exact ⟨le, places⟩
    · rw [scale, if_neg zero, run, residue_append le]

/-! ### The registers of a shift -/

/-- AQ holds a 96-bit word as its halves. -/
theorem setAQ_spec (s : State) (x : BitVec 96) :
    ∃ v w : Word, s.setAQ x = (s.setA v).setQ w ∧ (v ++ w : BitVec 96) = x :=
  ⟨_, _, rfl, BitVec.extractLsb'_append_extractLsb' (w := 48)⟩

theorem State.shiftFault_eq (s : State) (k : Addr) :
    s.shiftFault k = if 127 < k.toNat then s.setIntr (s.intr ||| bitWord 1) else s := rfl

@[simp] theorem State.shiftFault_a (s : State) (k : Addr) : (s.shiftFault k).a = s.a := by
  rw [State.shiftFault_eq]
  split <;> rfl

@[simp] theorem State.shiftFault_q (s : State) (k : Addr) : (s.shiftFault k).q = s.q := by
  rw [State.shiftFault_eq]
  split <;> rfl

@[simp] theorem State.shiftFault_inter (s : State) (k : Addr) : (s.shiftFault k).inter = s.inter := by
  rw [State.shiftFault_eq]
  split <;> rfl

section
variable {s : State} {b : Desig} {k n : Addr} (ready : s.Ready) (at_n : Effective b k s n)
include ready at_n

/-- A shift of A: the shift fault of K, and the function of the count. -/
theorem finishSeq_shiftA (f : Nat → Word → Word) :
    finishSeq s (onShift b k (fun c t => t.setA (f c t.a)) s) =
      .next (s.completed ((s.shiftFault n).setA (f (n.toNat % 128) s.a)).advance) := by
  rw [onShift_ready at_n, shiftCount_eq, State.shiftFault_a]
  exact finishSeq_of ready (s.shiftFault_inter n)

theorem finishSeq_shiftQ (f : Nat → Word → Word) :
    finishSeq s (onShift b k (fun c t => t.setQ (f c t.q)) s) =
      .next (s.completed ((s.shiftFault n).setQ (f (n.toNat % 128) s.q)).advance) := by
  rw [onShift_ready at_n, shiftCount_eq, State.shiftFault_q]
  exact finishSeq_of ready (s.shiftFault_inter n)

theorem finishSeq_shiftAQ (f : Nat → BitVec 96 → BitVec 96) :
    ∃ v w : Word, (v ++ w : BitVec 96) = f (n.toNat % 128) s.aq ∧
      finishSeq s (onShift b k (fun c t => t.setAQ (f c t.aq)) s) =
        .next (s.completed (((s.shiftFault n).setA v).setQ w).advance) := by
  have contents : (s.shiftFault n).aq = s.aq := by simp only [State.aq, State.shiftFault_a, State.shiftFault_q]
  obtain ⟨v, w, put, halves⟩ := setAQ_spec (s.shiftFault n) (f (n.toNat % 128) s.aq)
  refine ⟨v, w, halves, ?_⟩
  rw [onShift_ready at_n, shiftCount_eq, contents, put]
  exact finishSeq_of ready (s.shiftFault_inter n)

end

/-! ### The instructions -/

/-- Settles O41: each is one function of the operand, whose bits are those of its logical operations. -/
theorem logicalOps : Obligations.LogicalOps := by
  intro s b m a ready at_a installed x forms
  refine ⟨⟨s.a ||| x, fun n _ => ?sst, finishSeq_onOperand ready at_a installed rfl⟩,
    ⟨s.a &&& ~~~x, fun n hn => ?scl, finishSeq_onOperand ready at_a installed rfl⟩,
    ⟨s.a ^^^ x, fun n _ => ?scm, finishSeq_onOperand ready at_a installed rfl⟩,
    ⟨s.a &&& ~~~s.q ||| x &&& s.q, fun n hn => ?ssu, finishSeq_onOperand ready at_a installed rfl⟩,
    ⟨s.q &&& x, fun n _ => ?ldl, finishSeq_onOperand ready at_a installed rfl⟩⟩
  case sst => exact BitVec.getLsbD_or
  case scl => simp only [BitVec.getLsbD_and, BitVec.getLsbD_not, hn, decide_true, Bool.true_and]
  case scm => exact BitVec.getLsbD_xor
  case ssu =>
    simp only [BitVec.getLsbD_or, BitVec.getLsbD_and, BitVec.getLsbD_not, hn, decide_true, Bool.true_and]
    cases s.q.getLsbD n <;> simp
  case ldl => exact BitVec.getLsbD_and

/-- Settles O42: a shift to the right, and one to the left, of each of the three registers. -/
theorem shifts : Obligations.Shifts := by
  intro s b k n ready at_n c t right left
  have right_place (w : Nat) (x : BitVec w) : right w x (x.sshiftRight c) := fun _ => getLsbD_sshiftRight_place x c
  have left_place (w : Nat) (x : BitVec w) : left w x (x.rotateLeft c) := fun _ => getLsbD_rotateLeft_place x c
  refine ⟨⟨_, right_place 48 s.a, finishSeq_shiftA ready at_n fun c x => x.sshiftRight c⟩,
    ⟨_, right_place 48 s.q, finishSeq_shiftQ ready at_n fun c x => x.sshiftRight c⟩, ?lrs,
    ⟨_, left_place 48 s.a, finishSeq_shiftA ready at_n fun c x => x.rotateLeft c⟩,
    ⟨_, left_place 48 s.q, finishSeq_shiftQ ready at_n fun c x => x.rotateLeft c⟩, ?lls⟩
  case lrs =>
    obtain ⟨v, w, halves, run⟩ := finishSeq_shiftAQ ready at_n fun c x => x.sshiftRight c
    refine ⟨v, w, ?_, run⟩
    rw [halves]
    exact right_place 96 s.aq
  case lls =>
    obtain ⟨v, w, halves, run⟩ := finishSeq_shiftAQ ready at_n fun c x => x.rotateLeft c
    refine ⟨v, w, ?_, run⟩
    rw [halves]
    exact left_place 96 s.aq

section
variable {s : State} {b : Desig} {k m : Addr} {r : Option Ix} (ready : s.Ready) (at_m : Resolves b k s r m)
include ready at_m

theorem exec_sca :
    exec (.sca b k) s = .next (s.completed ((s.setA (scale s.a m).1).setIxOf r (scale s.a m).2).advance) := by
  show finishSeq s (onResolved b k _ s) = _
  rw [onResolved_ready at_m]
  exact finishSeq_of ready (State.setIxOf_inter _ r _)

theorem exec_scq :
    exec (.scq b k) s = .next (s.completed ((s.setAQ (scale s.aq m).1).setIxOf r (scale s.aq m).2).advance) := by
  show finishSeq s (onResolved b k _ s) = _
  rw [onResolved_ready at_m]
  exact finishSeq_of ready (State.setIxOf_inter _ r _)

end

/-- Settles O43: the scaled word and the residue of its count, of A and of AQ. -/
theorem scale_a_and_aq : Obligations.Scale := by
  intro s b k m r ready at_m c scaled places keep
  have kept (t : State) (n : Nat) : t.setIxOf r (m - BitVec.ofNat 15 n) = keep t n := by cases r <;> rfl
  refine ⟨?sca, ?scq⟩
  case sca =>
    obtain ⟨n, least, result⟩ := scale_spec s.a m
    refine ⟨n, least, ?_⟩
    rw [exec_sca ready at_m, result, kept]
  case scq =>
    obtain ⟨n, least, result⟩ := scale_spec s.aq m
    obtain ⟨v, w, put, halves⟩ := setAQ_spec s (s.aq.rotateLeft n)
    refine ⟨n, v, w, least, halves, ?_⟩
    rw [exec_scq ready at_m, result, kept, put]

end Sys2Proof.Machine
end

section
/-! PROOFS. The replace, storage test and search instructions (spec/43_replace_test_search.md R220 to R234). -/

namespace Sys2Proof.Machine

/-! ### The result of a replace instruction -/

/-- The word and the state that a sum or a difference of exact value `e` gives: in the range of A the word of that value
and no other change, with -0 under a stated condition; outside it a free word and the overflow fault (R161; log 10). -/
structure GivesValue (s : State) (e : Int) (minusZero : Prop) (r : Word × State) : Prop where
  within : e.natAbs < 2 ^ 47 → r.2 = s ∧ ocVal r.1 = e ∧ (r.1 = BitVec.allOnes 48 ↔ minusZero)
  outside : 2 ^ 47 ≤ e.natAbs → r.2 = (s.setIntr (s.intr ||| bitWord 3)).setFreeCount (s.freeCount + 1)

/-- In either case the state changes in the Interrupt register and the counter of the free choices at most. -/
theorem GivesValue.state {s : State} {e : Int} {minusZero : Prop} {r : Word × State}
    (gives : GivesValue s e minusZero r) : ∃ w c, r.2 = (s.setIntr w).setFreeCount c := by
  rcases Nat.lt_or_ge e.natAbs (2 ^ 47) with range | overflow
  · exact ⟨s.intr, s.freeCount, (gives.within range).1⟩
  · exact ⟨_, _, gives.outside overflow⟩

theorem sum_givesValue (x y : Word) (s : State) :
    GivesValue s (ocVal x + ocVal y) (x = BitVec.allOnes 48 ∧ y = BitVec.allOnes 48) (sum x y s) where
  within range := by
    rw [sum_within range]
    exact ⟨rfl, ocVal_ocadd (n := 47) x y range, ocadd_eq_allOnes_iff x y⟩
  outside overflow := by
    rw [sum_outside overflow]
    rfl

theorem difference_givesValue (x y : Word) (s : State) :
    GivesValue s (ocVal x - ocVal y) (x = BitVec.allOnes 48 ∧ y = 0) (difference x y s) where
  within range := by
    rw [difference_within range]
    exact ⟨rfl, ocVal_ocsub (n := 47) x y range, ocsub_eq_allOnes_iff x y⟩
  outside overflow := by
    rw [difference_outside overflow]
    rfl

theorem ocVal_one : ocVal (1 : Word) = 1 := ocVal_ofNat (n := 47) (by decide)

/-- One is neither zero, so neither adding nor subtracting it gives -0. -/
theorem sum_one_givesValue (x : Word) (s : State) : GivesValue s (ocVal x + 1) False (sum x 1 s) := by
  have gives := sum_givesValue x 1 s
  rwa [ocVal_one, eq_false (show (1 : Word) ≠ BitVec.allOnes 48 by decide), and_false] at gives

theorem difference_one_givesValue (x : Word) (s : State) :
    GivesValue s (ocVal x - 1) False (difference x 1 s) := by
  have gives := difference_givesValue x 1 s
  rwa [ocVal_one, eq_false (show (1 : Word) ≠ 0 by decide), and_false] at gives

/-! ### Replace (R220 to R224) -/

section
variable {s : State} {b : Desig} {m a : Addr} (ready : s.Ready) (at_a : Effective b m s a)
  (installed : s.installed a = true)
include ready at_a installed

theorem replace_ready (f : Word → State → Word × State) :
    replace b m f s = writeMem a (f (s.mem.readWord a) s).1 (putA (f (s.mem.readWord a) s)) := by
  rw [replace, onEffective_ready at_a, readMem_ready ready.1 installed]

section
variable {f : Word → State → Word × State} {e : Int} {minusZero : Prop}
  (gives : GivesValue s e minusZero (f (s.mem.readWord a) s))
include gives

/-- Out of bounds A has the result all the same (spec/60_exceptions.md R393). -/
theorem finishSeq_replace_outOfBounds (out : s.outOfBounds a = true) :
    finishSeq s (replace b m f s) = .next (s.completed
      ((putA (f (s.mem.readWord a) s)).setIntr ((f (s.mem.readWord a) s).2.intr ||| bitWord 42)).advance) := by
  rw [replace_ready ready at_a installed, putA]
  generalize f (s.mem.readWord a) s = r at gives ⊢
  obtain ⟨w, c, state⟩ := gives.state
  rw [state, writeMem, modifyMem_outOfBounds (s := ((s.setIntr w).setFreeCount c).setA r.1) out]
  exact finishSeq_of ready rfl

theorem finishSeq_replace_inBounds (wf : s.mem.wf = true) (inside : s.outOfBounds a = false) :
    ∃ w, finishSeq s (replace b m f s) =
        .next (s.completed ((putA (f (s.mem.readWord a) s)).setMem w).advance) ∧
      w.readWord a = (f (s.mem.readWord a) s).1 ∧ ∀ k, outsideWord a k → w.readByte k = s.mem.readByte k := by
  rw [replace_ready ready at_a installed, putA]
  generalize f (s.mem.readWord a) s = r at gives ⊢
  obtain ⟨w, c, state⟩ := gives.state
  rw [state, writeMem,
    modifyMem_ready (s := ((s.setIntr w).setFreeCount c).setA r.1) ready.1 inside installed]
  exact ⟨_, finishSeq_of ready rfl, Memory.writeWord_spec wf⟩

end

end

/-- Settles O44: each replaces the word at M by a sum or a difference, whose value and -0 are those of the adder. -/
theorem replaceOps : Obligations.ReplaceOps := by
  intro s b m a ready wf at_a installed x forms
  have one (i : Instr) (f : Word → State → Word × State) {e : Int} {minusZero : Prop}
      (run : exec i s = finishSeq s (replace b m f s)) (gives : GivesValue s e minusZero (f x s)) :
      forms i e minusZero := by
    simp only [forms, run]
    exact ⟨(f x s).1, (f x s).2, gives.within, gives.outside,
      finishSeq_replace_outOfBounds ready at_a installed gives,
      finishSeq_replace_inBounds ready at_a installed gives wf⟩
  exact ⟨one _ (fun x t => sum x t.a t) rfl (sum_givesValue x s.a s),
    one _ (fun x t => difference x t.a t) rfl (difference_givesValue x s.a s),
    one _ (fun x t => sum x 1 t) rfl (sum_one_givesValue x s),
    one _ (fun x t => difference x 1 t) rfl (difference_one_givesValue x s)⟩

/-! ### Storage tests (R226, R227) -/

section
variable {s : State} {b : Desig} {m a : Addr} (ready : s.Ready) (at_a : Effective b m s a)
  (installed : s.installed a = true)
include ready at_a installed

theorem exec_ssk : exec (.ssk b m) s = .next (s.completed (s.skipIf (s.mem.readWord a).msb)) := by
  show finish s (onOperand b m _ s) = _
  rw [onOperand_ready ready at_a installed]
  exact finish_of ready (s.skipIf_inter _)

theorem exec_ssh_outOfBounds (out : s.outOfBounds a = true) :
    exec (.ssh b m) s =
      .next (s.completed ((s.setIntr (s.intr ||| bitWord 42)).skipIf (s.mem.readWord a).msb)) := by
  show finish s (onEffective b m _ s) = _
  rw [onEffective_ready at_a, readMem_ready ready.1 installed]
  simp only [writeMem, modifyMem_outOfBounds out]
  exact finish_of ready (State.skipIf_inter _ _)

theorem exec_ssh_inBounds (inside : s.outOfBounds a = false) :
    exec (.ssh b m) s = .next (s.completed
      ((s.setMem (s.mem.writeWord a ((s.mem.readWord a).rotateLeft 1))).skipIf (s.mem.readWord a).msb)) := by
  show finish s (onEffective b m _ s) = _
  rw [onEffective_ready at_a, readMem_ready ready.1 installed]
  simp only [writeMem, modifyMem_ready ready.1 inside installed]
  exact finish_of ready (State.skipIf_inter _ _)

end

/-- Settles O45: the sign of the word before the shift decides the skip in every case. -/
theorem storageTests : Obligations.StorageTests := by
  intro s b m a ready wf at_a installed x follow
  have skips (t : State) : t.skipIf x.msb = follow t := by
    rw [BitVec.msb_eq_getLsbD_last]
    rfl
  obtain ⟨word, others⟩ := Memory.writeWord_spec (a := a) (w := x.rotateLeft 1) wf
  refine ⟨?ssk, fun out => ?outOfBounds, fun inside => ⟨s.mem.writeWord a (x.rotateLeft 1), ?inBounds, ?_, others⟩⟩
  case ssk => rw [exec_ssk ready at_a installed, skips]
  case outOfBounds => rw [exec_ssh_outOfBounds ready at_a installed out, skips]
  case inBounds => rw [exec_ssh_inBounds ready at_a installed inside, skips]
  · intro j hj
    rw [word]
    exact getLsbD_rotateLeft_place x 1 hj

/-! ### The conditions of a search (R231, R232) -/

theorem isZero_iff (x : Word) : isZero x = true ↔ ocVal x = 0 := by
  have hx := x.isLt
  rw [isZero, Bool.or_eq_true, decide_eq_true_eq, decide_eq_true_eq, ← BitVec.toNat_inj, ← BitVec.toNat_inj,
    BitVec.toNat_allOnes, ocVal_eq (n := 47)]
  show x.toNat = 0 ∨ _ ↔ _
  split <;> omega

theorem eq48_iff (x y : Word) : eq48 x y = true ↔ x = y ∨ (ocVal x = 0 ∧ ocVal y = 0) := by
  rw [eq48, Bool.or_eq_true, decide_eq_true_eq, Bool.and_eq_true, isZero_iff, isZero_iff]

/-- The order of the patterns is that of the integers they stand for, but for the two zeros (log 32). -/
theorem gt48_iff (x y : Word) : gt48 x y = true ↔ ocVal y < ocVal x ∨ (x = 0 ∧ y = BitVec.allOnes 48) := by
  have hx := x.isLt
  have hy := y.isLt
  rw [gt48, decide_eq_true_eq, ocVal_eq (n := 47), ocVal_eq (n := 47), ← BitVec.toNat_inj, ← BitVec.toNat_inj,
    BitVec.toNat_allOnes, BitVec.toInt_eq_toNat_cond, BitVec.toInt_eq_toNat_cond]
  show _ ↔ _ ∨ x.toNat = 0 ∧ _
  split_ifs <;> omega

/-! ### Search (R230) -/

section
variable {s : State} {b : Desig} {m a : Addr} (hit : Word → State → Bool)

theorem search_one_word (ready : s.Ready) (at_a : Resolves b m s none a) (installed : s.installed a = true) :
    finish s (search hit b m s) = .next (s.completed (s.skipIf (hit (s.mem.readWord a) s))) := by
  rw [search, onResolved_ready at_a]
  simp only [readMem_ready ready.1 installed]
  exact finish_of ready (s.skipIf_inter _)

variable {r : Ix} (at_a : Resolves b m s (some r) a)
include at_a

theorem search_negativeZero (minusZero : s.ix r = BitVec.allOnes 15) :
    finish s (search hit b m s) = .refused .negativeZeroIndex := by
  rw [search, onResolved_ready at_a]
  simp only [minusZero, if_true]
  rfl

/-- Any other search through an index register ends as its loop does. -/
theorem search_of_searchLoop (ready : s.Ready) (counts : s.ix r ≠ BitVec.allOnes 15) {found : Bool} {v : Addr}
    (loop : searchLoop (fun x => hit x s) r a (s.ix r).toNat s = .ok (found, s.setIx r v)) :
    finish s (search hit b m s) = .next (s.completed ((s.setIx r v).skipIf found)) := by
  rw [search, onResolved_ready at_a]
  simp only [if_neg counts, loop]
  exact finish_of ready (State.skipIf_inter _ _)

end

/-- Settles O46: one loop under four conditions. -/
theorem searches : Obligations.Searches := by
  intro s b m a ready forms equal greater
  have one (i : Instr) (found : Word → State → Bool) {hit : Word → Prop}
      (run : exec i s = finish s (search found b m s)) (condition : ∀ x, found x s = true ↔ hit x) :
      forms i hit := by
    simp only [forms, run, ← condition, Bool.not_eq_true]
    refine ⟨fun at_a installed => ?noRegister, fun r at_a => ⟨search_negativeZero found at_a, ?register⟩⟩
    case noRegister =>
      rw [search_one_word found ready at_a installed]
      exact ⟨fun hits => by rw [hits]; rfl, fun misses => by rw [misses]; rfl⟩
    case register =>
      obtain ⟨stops, runsOut⟩ :=
        searchLoop_spec (fun x => found x s) r a s ready.1 (s.ix r).toNat (s.ix r).isLt
      rw [BitVec.ofNat_toNat, BitVec.setWidth_eq, State.setIx_ix] at stops runsOut
      exact ⟨fun counts j below installed hits above =>
          search_of_searchLoop found at_a ready counts (stops j below installed hits above),
        fun counts misses => search_of_searchLoop found at_a ready counts (runsOut misses)⟩
  exact ⟨one _ (fun x t => eq48 x t.a) rfl fun x => eq48_iff x s.a,
    one _ (fun x t => gt48 x t.a) rfl fun x => gt48_iff x s.a,
    one _ (fun x t => eq48 (t.q &&& x) t.a) rfl fun x => eq48_iff (s.q &&& x) s.a,
    one _ (fun x t => gt48 (t.q &&& x) t.a) rfl fun x => gt48_iff (s.q &&& x) s.a⟩

end Sys2Proof.Machine
end

section
/-! PROOFS. The jumps and stops (spec/44_jumps_stops.md R240 to R253). -/

namespace Sys2Proof.Machine

/-! ### The conditions -/

/-- `cond(j, R)` of R243 in words: which of a register's contents it is. -/
def RegCondHolds (j : RegCond) (x : Word) : Prop :=
  match j with
  | .zero => x = 0 ∨ x = BitVec.allOnes 48
  | .nonzero => ¬(x = 0 ∨ x = BitVec.allOnes 48)
  | .positive => x.getLsbD 47 = false
  | .negative => x.getLsbD 47 = true

theorem regCond_iff (j : RegCond) (x : Word) : regCond j x = true ↔ RegCondHolds j x := by
  have sign : x.msb = x.getLsbD 47 := BitVec.msb_eq_getLsbD_last x
  cases j with
  | zero => simp [regCond, RegCondHolds, isZero]
  | nonzero => simp [regCond, RegCondHolds, isZero]
  | positive => simp [regCond, RegCondHolds, sign]
  | negative => simp [regCond, RegCondHolds, sign]

/-- `sw(j)` of R248 in words: no switch, or one that is set (log 28). -/
def JumpCondHolds (s : State) (j : SwCond) : Prop :=
  match j with
  | .always => True
  | .sw1 => s.console.jump1 = true
  | .sw2 => s.console.jump2 = true
  | .sw3 => s.console.jump3 = true

theorem jumpCond_iff (s : State) (j : SwCond) : s.jumpCond j = true ↔ JumpCondHolds s j := by
  cases j with
  | always => exact iff_of_true rfl trivial
  | sw1 | sw2 | sw3 => exact Iff.rfl

/-! ### Conditional jumps (R241 to R249, R253) -/

/-- Settles O47: the conditional jump, on A, on Q and on the switches. -/
theorem normalJumps : Obligations.NormalJumps := by
  intro s m ready forms zero
  have one (i : Instr) (c : Bool) {holds : Prop} (run : exec i s = condJump c m s) (condition : c = true ↔ holds) :
      forms i holds := by
    simp only [forms, run, ← condition, Bool.not_eq_true]
    refine ⟨?taken, ?outOfBounds, ?untaken⟩
    case taken =>
      rintro rfl inside
      exact condJump_taken ready inside
    case outOfBounds =>
      rintro rfl out
      exact condJump_outOfBounds ready out
    case untaken =>
      rintro rfl
      exact condJump_not ready
  have ajp (j : RegCond) : forms (.ajp j m) (RegCondHolds j s.a) := one _ _ rfl (regCond_iff j s.a)
  have qjp (j : RegCond) : forms (.qjp j m) (RegCondHolds j s.q) := one _ _ rfl (regCond_iff j s.q)
  have slj (j : SwCond) : forms (.slj j m) (JumpCondHolds s j) := one _ _ rfl (jumpCond_iff s j)
  exact ⟨ajp .zero, ajp .nonzero, ajp .positive, ajp .negative, qjp .zero, qjp .nonzero, qjp .positive, qjp .negative,
    slj .always, slj .sw1, slj .sw2, slj .sw3⟩

/-- A return jump in bounds replaces the upper address of the word at m and no other bit of storage (R242). -/
theorem condReturn_inBounds {s : State} {m : Addr} (ready : s.Ready) (wf : s.mem.wf = true)
    (inside : s.outOfBounds m = false) (installed : s.installed m = true) :
    ∃ v, condReturn true m s = .next (s.completed ((((s.setMem v).setP m).setHalf .lower).setUHeld false)) ∧
      (∀ j, (v.readWord m).getLsbD j =
        if 24 ≤ j ∧ j < 39 then (s.p + 1).getLsbD (j - 24) else (s.mem.readWord m).getLsbD j) ∧
      ∀ k, outsideWord m k → v.readByte k = s.mem.readByte k := by
  obtain ⟨word, others⟩ := Memory.writeWord_spec (a := m) (w := setField (s.mem.readWord m) 24 (s.p + 1)) wf
  refine ⟨_, condReturn_taken ready inside installed, fun j => ?_, others⟩
  rw [word, getLsbD_setField _ _ _ (by decide)]

/-- Settles O48: the conditional return jump, on A, on Q and on the switches. -/
theorem returnJumps : Obligations.ReturnJumps := by
  intro s m ready wf forms zero
  have one (i : Instr) (c : Bool) {holds : Prop} (run : exec i s = condReturn c m s) (condition : c = true ↔ holds) :
      forms i holds := by
    simp only [forms, run, ← condition, Bool.not_eq_true]
    refine ⟨?taken, ?outOfBounds, ?untaken⟩
    case taken =>
      rintro rfl
      exact condReturn_inBounds ready wf
    case outOfBounds =>
      rintro rfl out
      exact condReturn_outOfBounds ready out
    case untaken =>
      rintro rfl
      exact condReturn_not ready
  have arj (j : RegCond) : forms (.arj j m) (RegCondHolds j s.a) := one _ _ rfl (regCond_iff j s.a)
  have qrj (j : RegCond) : forms (.qrj j m) (RegCondHolds j s.q) := one _ _ rfl (regCond_iff j s.q)
  have rtj (j : SwCond) : forms (.rtj j m) (JumpCondHolds s j) := one _ _ rfl (jumpCond_iff s j)
  exact ⟨arj .zero, arj .nonzero, arj .positive, arj .negative, qrj .zero, qrj .nonzero, qrj .positive, qrj .negative,
    rtj .always, rtj .sw1, rtj .sw2, rtj .sw3⟩

/-! ### The index jump (R247) -/

/-- Only from zero does subtracting one borrow. -/
theorem ocsub_one {x : Addr} (nonzero : x ≠ 0) : ocsub x 1 = x - 1 := by
  have value : x.toNat ≠ 0 := fun h => nonzero (BitVec.eq_of_toNat_eq h)
  have one : (1 : Addr).toNat = 1 := rfl
  rw [ocsub, if_neg (by omega)]

theorem normalJump_inBounds {a : Addr} {seq s : State} (inside : s.outOfBounds a = false) :
    normalJump a seq s = s.goto a .upper :=
  if_neg (by simp [inside])

theorem normalJump_outOfBounds {a : Addr} {seq s : State} (out : s.outOfBounds a = true) :
    normalJump a seq s = seq.setFault 42 :=
  if_pos out

section
variable {s : State} {b : Desig} {m a : Addr}

theorem exec_ijp_noRegister (ready : s.Ready) (at_a : Resolves b m s none a) :
    exec (.ijp b m) s = .next (s.completed s.advance) := by
  rw [Resolves] at at_a
  show execIjp b m s = _
  simp only [execIjp, at_a]
  exact finishJump_of ready s.advance_inter

variable {r : Ix} (at_a : Resolves b m s (some r) a)
include at_a

/-- IJP through an index register: -0 is refused (log 17), zero passes on, any other count goes down and jumps. -/
theorem exec_ijp_register :
    exec (.ijp b m) s =
      if s.ix r = BitVec.allOnes 15 then .refused .negativeZeroIndex
      else if s.ix r = 0 then finishJump s false (.ok s.advance)
      else
        finishJump s (!s.outOfBounds a)
          (.ok (normalJump a (s.setIx r (ocsub (s.ix r) 1)).advance (s.setIx r (ocsub (s.ix r) 1)))) := by
  rw [Resolves] at at_a
  show execIjp b m s = _
  simp only [execIjp, at_a]
  rfl

theorem exec_ijp_negativeZero (minusZero : s.ix r = BitVec.allOnes 15) :
    exec (.ijp b m) s = .refused .negativeZeroIndex := by
  rw [exec_ijp_register at_a, if_pos minusZero]

variable (ready : s.Ready)
include ready

theorem exec_ijp_zero (zero : s.ix r = 0) : exec (.ijp b m) s = .next (s.completed s.advance) := by
  have counts : s.ix r ≠ BitVec.allOnes 15 := by
    rw [zero]
    decide
  rw [exec_ijp_register at_a, if_neg counts, if_pos zero]
  exact finishJump_of ready s.advance_inter

/-- The count goes down before the bounds are consulted, so it does so whether or not the jump is made (log 20). -/
theorem exec_ijp_counts (nonzero : s.ix r ≠ 0) (counts : s.ix r ≠ BitVec.allOnes 15) :
    (s.outOfBounds a = false →
      exec (.ijp b m) s = .next (s.completed ((s.setIx r (s.ix r - 1)).goto a .upper))) ∧
    (s.outOfBounds a = true →
      exec (.ijp b m) s =
        .next (s.completed ((s.setIx r (s.ix r - 1)).advance.setIntr (s.intr ||| bitWord 42)))) := by
  rw [exec_ijp_register at_a, if_neg counts, if_neg nonzero, ocsub_one nonzero]
  refine ⟨fun inside => ?_, fun out => ?_⟩
  · rw [normalJump_inBounds (s := s.setIx r _) inside]
    exact finishJump_of ready rfl
  · rw [normalJump_outOfBounds (s := s.setIx r _) out, State.advance_setFault]
    exact finishJump_of ready (s.setIx r _).advance_inter

end

/-- Settles O49: no register, and the three kinds of contents of one. -/
theorem indexJump : Obligations.IndexJump := by
  intro s b m a ready
  exact ⟨exec_ijp_noRegister ready, fun r at_a =>
    ⟨exec_ijp_zero at_a ready, exec_ijp_negativeZero at_a, exec_ijp_counts at_a ready⟩⟩

/-! ### Stops and the Go switch (R250 to R252) -/

section
variable {s : State} {j : SwCond} {m : Addr}

theorem exec_stops (stops : s.stopCond j = true) :
    exec (.sls j m) s = .next s.stop ∧ exec (.srj j m) s = .next s.stop :=
  ⟨if_pos stops, if_pos stops⟩

theorem exec_passes_stop (passes : s.stopCond j = false) :
    exec (.sls j m) s = exec (.slj .always m) s ∧ exec (.srj j m) s = exec (.rtj .always m) s :=
  ⟨if_neg (by simp [passes]), if_neg (by simp [passes])⟩

theorem pressGo_sls (stopped : s.slsStopped = true) (decoded : decodeAt s.u s.half = .instr (.sls j m)) :
    pressGo s = exec (.slj .always m) ((s.setRunning true).setSlsStopped false) := by
  simp only [pressGo, stopped, if_true, State.setSlsStopped_u, State.setSlsStopped_half, State.setRunning_u,
    State.setRunning_half, decoded]
  rfl

theorem pressGo_srj (stopped : s.slsStopped = true) (decoded : decodeAt s.u s.half = .instr (.srj j m)) :
    pressGo s = exec (.rtj .always m) ((s.setRunning true).setSlsStopped false) := by
  simp only [pressGo, stopped, if_true, State.setSlsStopped_u, State.setSlsStopped_half, State.setRunning_u,
    State.setRunning_half, decoded]
  rfl

theorem pressGo_unstopped (unstopped : s.slsStopped = false) : pressGo s = .next s := if_neg (by simp [unstopped])

/-- The Go switch works where the console is not locked out (R422). -/
theorem step_go {rest : List Event} (env : s.env = .go :: rest)
    (unlocked : s.console.systemActive = true ∨ s.console.maintenance = true) : step s = pressGo (s.setEnv rest) := by
  have notLocked : s.console.locked = false := by
    rcases unlocked with on | on <;> simp [Console.locked, on]
  simp [step, env, handle, unlessLocked, notLocked]

end

/-- Settles O50: the stop condition decides between the stop and the jump; Go makes the jump from the stop. -/
theorem stopAndGo : Obligations.StopAndGo := by
  intro s j m stops
  have condition : s.stopCond j = stops := by cases j <;> rfl
  rw [← condition]
  refine ⟨exec_stops, exec_passes_stop, fun rest env unlocked => ?go⟩
  case go =>
    rw [step_go env unlocked]
    exact ⟨pressGo_sls (s := s.setEnv rest), pressGo_srj (s := s.setEnv rest), pressGo_unstopped (s := s.setEnv rest)⟩

end Sys2Proof.Machine
end

section
/-! PROOFS. The character, internal function, internal sense, augment and bounds instructions
(spec/45_character_internal.md R260 to R289). -/

namespace Sys2Proof.Machine

/-! ### The position of a character (R260) -/

/-- The list in the model holds the eight multiples of six within a word. -/
theorem mem_charPositions {n : Nat} : n ∈ [0, 6, 12, 18, 24, 30, 36, 42] ↔ ∃ k, k < 8 ∧ n = 6 * k := by
  simp only [List.mem_cons, List.not_mem_nil, or_false]
  refine ⟨fun h => ⟨n / 6, ?_⟩, fun ⟨k, hk⟩ => ?_⟩ <;> omega

theorem charPos_listed {s : State} {r : Ix} {k : Nat} (position : k < 8) (holds : s.ix r = BitVec.ofNat 15 (6 * k)) :
    charPos (.ix r) s = .ok (6 * k) := by
  have value : (s.ix r).toNat = 6 * k := by
    rw [holds, BitVec.toNat_ofNat]
    omega
  rw [charPos, value, if_pos (List.contains_iff_mem.mpr (mem_charPositions.mpr ⟨k, position, rfl⟩))]

theorem charPos_unlisted {s : State} {r : Ix} (other : ∀ k, k < 8 → s.ix r ≠ BitVec.ofNat 15 (6 * k)) :
    charPos (.ix r) s = .error (.refused .characterPosition) := by
  refine if_neg fun listed => ?_
  obtain ⟨k, position, value⟩ := mem_charPositions.mp (List.contains_iff_mem.mp listed)
  exact other k position (by rw [← value, BitVec.ofNat_toNat, BitVec.setWidth_eq])

/-! ### Characters (R261, R262) -/

section
variable {s : State} {b v : Desig} {m a : Addr} (at_a : Effective b m s a)
include at_a

theorem character_refused {e : Refusal} (position : charPos v s = .error (.refused e)) :
    exec (.ldc b v m) s = .refused e ∧ exec (.stc b v m) s = .refused e := by
  constructor
  · show finish s (onEffective b m _ s) = _
    rw [onEffective_ready at_a, position]
    rfl
  · show finish s (onEffective b m _ s) = _
    rw [onEffective_ready at_a, position]
    rfl

variable {k : Nat} (ready : s.Ready) (installed : s.installed a = true) (position : charPos v s = .ok k)
include ready installed position

theorem exec_ldc :
    exec (.ldc b v m) s =
      .next (s.completed (s.setA ((field (s.mem.readWord a) k 6).setWidth 48)).nextStep) := by
  show finish s (onEffective b m _ s) = _
  rw [onEffective_ready at_a, position]
  simp only [readMem_ready ready.1 installed]
  exact finish_of ready rfl

theorem exec_stc_outOfBounds (out : s.outOfBounds a = true) :
    exec (.stc b v m) s = .next (s.completed (s.setIntr (s.intr ||| bitWord 42)).nextStep) := by
  show finish s (onEffective b m _ s) = _
  rw [onEffective_ready at_a, position]
  simp only [readMem_ready ready.1 installed, writeMem, modifyMem_outOfBounds out]
  exact finish_of ready rfl

theorem exec_stc_inBounds (inside : s.outOfBounds a = false) :
    exec (.stc b v m) s = .next (s.completed
      (s.setMem (s.mem.writeWord a (setField (s.mem.readWord a) k (field s.a 0 6)))).nextStep) := by
  show finish s (onEffective b m _ s) = _
  rw [onEffective_ready at_a, position]
  simp only [readMem_ready ready.1 installed, writeMem, modifyMem_ready ready.1 inside installed]
  exact finish_of ready rfl

end

/-- Above its six bits A is zero. -/
theorem getLsbD_character (x : Word) (k j : Nat) :
    ((field x k 6).setWidth 48).getLsbD j = (decide (j < 6) && x.getLsbD (k + j)) := by
  rw [BitVec.getLsbD_setWidth, getLsbD_field, ← Bool.and_assoc, ← Bool.decide_and]
  congr 2
  exact propext (by omega)

/-- Only the six bits of the portion come from A, its lowest six. -/
theorem getLsbD_storedCharacter (x w : Word) {k : Nat} (fits : k + 6 ≤ 48) (j : Nat) :
    (setField x k (field w 0 6)).getLsbD j =
      if k ≤ j ∧ j < k + 6 then w.getLsbD (j - k) else x.getLsbD j := by
  rw [getLsbD_setField _ _ _ fits, getLsbD_field, Nat.zero_add]
  refine if_ctx_congr Iff.rfl (fun portion => ?_) fun _ => rfl
  rw [decide_eq_true (show j - k < 6 by omega), Bool.true_and]

/-- Settles O51: the eight positions, the other contents of an index register, and the designators that name none. -/
theorem characters : Obligations.Characters := by
  intro s b m a ready wf at_a installed x
  obtain ⟨ldcZero, stcZero⟩ := character_refused (v := .zero) at_a rfl
  obtain ⟨ldcSeven, stcSeven⟩ := character_refused (v := .seven) at_a rfl
  refine ⟨fun r k position holds => ?listed, fun r other => character_refused at_a (charPos_unlisted other),
    ldcZero, ldcSeven, stcZero, stcSeven⟩
  case listed =>
    have at_k := charPos_listed position holds
    obtain ⟨word, others⟩ := Memory.writeWord_spec (a := a) (w := setField x (6 * k) (field s.a 0 6)) wf
    refine ⟨⟨_, exec_ldc at_a ready installed at_k, getLsbD_character x (6 * k)⟩,
      exec_stc_outOfBounds at_a ready installed at_k,
      fun inside => ⟨_, exec_stc_inBounds at_a ready installed at_k inside, fun j => ?_, others⟩⟩
    rw [word, getLsbD_storedCharacter x s.a (by omega)]

/-! ### Internal functions (R265 to R276) -/

/-- The table of the codes and the table of their effects agree: a code that is not listed has no effect. -/
theorem internalFunction_unlisted {y : Nat} (s : State) (unlisted : y ∉ infCodes) : internalFunction y s = none := by
  unfold internalFunction
  split
  case h_60 => rfl
  all_goals exact absurd (by decide) unlisted

theorem mem_infCodes_of_internalFunction {s t : State} {y : Nat} (function : internalFunction y s = some t) :
    y ∈ infCodes := by
  by_contra unlisted
  rw [internalFunction_unlisted s unlisted] at function
  cases function

theorem internalFunction_inter {s t : State} {y : Nat} (function : internalFunction y s = some t) :
    t.inter = s.inter := by
  unfold internalFunction at function
  split at function
  case h_60 => cases function
  all_goals
    cases function
    rfl

/-- Every code fits the 15 bits of the operand. -/
theorem infCodes_lt : ∀ y ∈ infCodes, y < 2 ^ 15 := by decide

theorem exec_inf {s t : State} (ready : s.Ready) {y : Nat} (function : internalFunction y s = some t) :
    exec (.inf (BitVec.ofNat 15 y)) s = .next (s.completed t.advance) := by
  have code : (BitVec.ofNat 15 y).toNat = y :=
    Nat.mod_eq_of_lt (infCodes_lt y (mem_infCodes_of_internalFunction function))
  show finishSeq s _ = _
  rw [code, function]
  exact finishSeq_of ready (internalFunction_inter function)

theorem exec_inf_unlisted {s : State} {y : Addr} (unlisted : y.toNat ∉ infCodes) :
    exec (.inf y) s = .refused .functionCode := by
  show finishSeq s _ = _
  rw [internalFunction_unlisted s unlisted]
  rfl

/-- INF 00400 clears the five arithmetic faults one by one: bits 1 to 5, octal 76 (R270). -/
theorem internalFunction_clearFaults (s : State) :
    internalFunction 0o400 s = some (s.setIntr (s.intr &&& ~~~(0o76 : Word))) := by
  have bits : ~~~(bitWord 1) &&& (~~~(bitWord 2) &&& (~~~(bitWord 3) &&& (~~~(bitWord 4) &&& ~~~(bitWord 5)))) =
      ~~~(0o76 : Word) := by decide
  rw [← bits]
  simp only [← BitVec.and_assoc]
  rfl

/-- The codes of channel x, in the three groups of R266, R268 and R269. -/
theorem internalFunction_channel (s : State) {x : Nat} (channel : x < 4) :
    internalFunction (8 * x) s = some ((s.select (10 + x)).clearFault (10 + x)) ∧
    internalFunction (8 * x + 1) s = some ((s.deselect (10 + x)).clearFault (10 + x)) ∧
    internalFunction (0o200 + 8 * x) s = some (s.select (30 + x)) ∧
    internalFunction (0o201 + 8 * x) s = some (s.deselect (30 + x)) ∧
    internalFunction (0o300 + 8 * x) s = some (s.select (20 + x)) ∧
    internalFunction (0o301 + 8 * x) s = some (s.deselect (20 + x)) := by
  interval_cases x <;> exact ⟨rfl, rfl, rfl, rfl, rfl, rfl⟩

/-- The codes of arithmetic fault n (R270). -/
theorem internalFunction_fault (s : State) {n : Nat} (first : 1 ≤ n) (last : n ≤ 5) :
    internalFunction (0o400 + 8 * n) s = some (s.select n) ∧
    internalFunction (0o401 + 8 * n) s = some (s.deselect n) ∧
    internalFunction (0o402 + 8 * n) s = some (s.clearFault n) := by
  interval_cases n <;> exact ⟨rfl, rfl, rfl⟩

/-- Settles O52: the table, read code by code. -/
theorem internalFunctions : Obligations.InternalFunctions := by
  intro s ready does select deselect clear
  have one {y : Nat} {t : State} (function : internalFunction y s = some t) : does y t := exec_inf ready function
  refine ⟨fun x channel => ?channel, one rfl, one rfl, one rfl, one rfl, one (internalFunction_clearFaults s),
    fun n first last => ?fault, one rfl, one rfl, one rfl, one rfl, one rfl, one rfl, one rfl, one rfl, one rfl,
    one rfl, one rfl, one rfl, one rfl, one rfl, one rfl, fun y => exec_inf_unlisted⟩
  case channel =>
    obtain ⟨inactiveSelect, inactiveClear, lineSelect, lineClear, paritySelect, parityClear⟩ :=
      internalFunction_channel s channel
    exact ⟨one inactiveSelect, one inactiveClear, one lineSelect, one lineClear, one paritySelect, one parityClear⟩
  case fault =>
    obtain ⟨selects, deselects, clears⟩ := internalFunction_fault s first last
    exact ⟨one selects, one deselects, one clears⟩

/-! ### Internal sense (R280, R281) -/

/-- The table of the codes and the table of their conditions agree: a code that is not listed has no condition. -/
theorem senseCondition_unlisted {y : Nat} (s : State) (unlisted : y ∉ senCodes) : senseCondition y s = none := by
  unfold senseCondition
  split
  case h_17 => rfl
  all_goals exact absurd (by decide) unlisted

theorem mem_senCodes_of_senseCondition {s : State} {y : Nat} {c : Bool} (condition : senseCondition y s = some c) :
    y ∈ senCodes := by
  by_contra unlisted
  rw [senseCondition_unlisted s unlisted] at condition
  cases condition

/-- Every code fits the 15 bits of the operand. -/
theorem senCodes_lt : ∀ y ∈ senCodes, y < 2 ^ 15 := by decide

theorem senseCondition_channel (s : State) (x : ChanId) :
    senseCondition (8 * x.index) s = some (!(s.chan x).active || !s.chanInstalled x) ∧
    senseCondition (8 * x.index + 1) s = some ((s.chan x).active && s.chanInstalled x) := by
  cases x <;> exact ⟨rfl, rfl⟩

section
variable {s : State}

theorem exec_sen_lower (ready : s.Ready) (lower : s.half = .lower) (y : Addr) :
    exec (.sen y) s = .next (s.completed s.advance) := by
  show execSen y s = _
  simp only [execSen, lower]
  exact finishSeq_of ready rfl

variable (upper : s.half = .upper)
include upper

theorem exec_sen_upper (ready : s.Ready) {y : Nat} {c : Bool} (condition : senseCondition y s = some c) :
    exec (.sen (BitVec.ofNat 15 y)) s = .next (s.completed (s.skipIf c)) := by
  have code : (BitVec.ofNat 15 y).toNat = y :=
    Nat.mod_eq_of_lt (senCodes_lt y (mem_senCodes_of_senseCondition condition))
  show execSen _ s = _
  simp only [execSen, upper, code, condition]
  exact finish_of ready (s.skipIf_inter c)

theorem exec_sen_unlisted {y : Addr} (unlisted : y.toNat ∉ senCodes) : exec (.sen y) s = .refused .senseCode := by
  show execSen y s = _
  simp only [execSen, upper, senseCondition_unlisted s unlisted]

end

/-- Settles O53: the conditions of the codes, each compared with what it stands for. -/
theorem internalSense : Obligations.InternalSense := by
  intro s ready
  refine ⟨fun upper => ?_, exec_sen_lower ready⟩
  intro skips
  have one {y : Nat} {c : Bool} {holds : Prop} (condition : senseCondition y s = some c)
      (meaning : c = true ↔ holds) : skips y holds := by
    simp only [skips, exec_sen_upper upper ready condition, ← meaning, Bool.not_eq_true]
    exact ⟨fun skip => by rw [skip]; rfl, fun pass => by rw [pass]; rfl⟩
  have clear (flipFlop : Bool) : (!flipFlop) = true ↔ flipFlop = false := by rw [Bool.not_eq_true']
  refine ⟨fun x => ?channel, one rfl Iff.rfl, one rfl (clear _), one rfl Iff.rfl, one rfl (clear _),
    one rfl Iff.rfl, one rfl (clear _), one rfl Iff.rfl, one rfl (clear _), fun y => exec_sen_unlisted upper⟩
  case channel =>
    obtain ⟨inactive, active⟩ := senseCondition_channel s x
    exact ⟨one inactive (by simp [imp_iff_not_or]), one active (by simp)⟩

/-! ### Augment (R283 to R286) -/

/-- t2 may stand over the twelve codes of R286, t1 and t0 over the four floating point ones among them. -/
theorem augAllowed_iff (f : Nat) (t2 t1 t0 : Bool) :
    augAllowed f t2 t1 t0 = true ↔
      (t2 = true → f ∈ [0o12, 0o16, 0o20, 0o21, 0o14, 0o15, 0o24, 0o25] ∨ f ∈ [0o30, 0o31, 0o32, 0o33]) ∧
        (t1 = true ∨ t0 = true → f ∈ [0o30, 0o31, 0o32, 0o33]) := by
  rw [← List.mem_append]
  simp only [augAllowed, Bool.and_eq_true, Bool.or_eq_true, Bool.not_eq_true', ← Bool.not_eq_true, ← imp_iff_not_or,
    List.contains_iff_mem]
  rfl

/-- Replacing the lower address leaves the 33 bits above it. -/
theorem field_setLowerAddr (w : Word) (v : Addr) :
    field (setLowerAddr w v) 0 15 = v ∧ field (setLowerAddr w v) 15 33 = field w 15 33 := by
  constructor
  · refine BitVec.eq_of_getLsbD_eq fun j hj => ?_
    rw [getLsbD_field, setLowerAddr, getLsbD_setField _ _ _ (by decide), if_pos (by omega)]
    simp [hj]
  · refine BitVec.eq_of_getLsbD_eq fun j hj => ?_
    rw [getLsbD_field, getLsbD_field, setLowerAddr, getLsbD_setField _ _ _ (by decide), if_neg (by omega)]

/-- The function code of the lower instruction lies in bits 23 to 18 of U. -/
theorem functionCode_lower (u : Word) : functionCode (field u 0 24) = (field u 18 6).toNat := by
  rw [functionCode, field_field u (by omega)]

section
variable {s : State}

theorem augAddress_ix (r : Ix) (modified : (field s.u 18 6).toNat ≠ 0) :
    augAddress (.ix r) s = .ok (s.setU (setLowerAddr s.u (ocadd (field s.u 0 15) (s.ix r)))) := by
  rw [augAddress, functionCode_lower, if_neg modified]
  rfl

/-- IAQ and ATI have function code 0, and no address that v could change. -/
theorem augAddress_unmodified {v : Desig} (unmodified : (field s.u 18 6).toNat = 0) (named : v ≠ .zero) :
    augAddress v s = .error (.refused .augmentAddress) := by
  cases v with
  | zero => exact absurd rfl named
  | ix r => rw [augAddress, functionCode_lower, if_pos unmodified]
  | seven => rw [augAddress, functionCode_lower, if_pos unmodified]

theorem augAddress_seven (quiet : s.inter = []) (modified : (field s.u 18 6).toNat ≠ 0)
    (installed : s.installed (field s.u 0 15) = true) :
    augAddress .seven s =
      if field (s.mem.readWord (field s.u 0 15)) 15 3 = 0 then
        .ok (s.setU (setLowerAddr s.u (field (s.mem.readWord (field s.u 0 15)) 0 15)))
      else .error (.refused .augmentIndirect) := by
  have read : readMem (lowerAddr s.u) s = .ok (s.mem.readWord (field s.u 0 15), s) := readMem_ready quiet installed
  rw [augAddress, functionCode_lower, if_neg modified, read]
  rfl

variable {v : Desig} {t2 t1 t0 : Bool}

theorem exec_aug_lower (ready : s.Ready) (lower : s.half = .lower) :
    exec (.aug v t2 t1 t0) s = .next (s.completed s.advance) := by
  show execAug v t2 t1 t0 s = _
  simp only [execAug, lower]
  exact finishSeq_of ready rfl

variable (ready : s.Ready) (upper : s.half = .upper)
include upper

theorem exec_aug_upper : exec (.aug v t2 t1 t0) s = Res.outcome (augment v t2 t1 t0 s) := by
  show execAug v t2 t1 t0 s = _
  simp only [execAug, upper]

include ready

theorem exec_aug_disallowed (disallowed : ¬augAllowed (field s.u 18 6).toNat t2 t1 t0 = true) :
    exec (.aug v t2 t1 t0) s = .refused .augmentDesignator := by
  rw [exec_aug_upper upper, augment, functionCode_lower, if_neg (by simp [ready.2]), if_neg disallowed]
  rfl

variable (allowed : augAllowed (field s.u 18 6).toNat t2 t1 t0 = true)
include allowed

theorem exec_aug_refused {e : Refusal} (address : augAddress v s = .error (.refused e)) :
    exec (.aug v t2 t1 t0) s = .refused e := by
  rw [exec_aug_upper upper, augment, functionCode_lower, if_neg (by simp [ready.2]), if_pos allowed, address]
  rfl

/-- The lower instruction follows at once: no sampling point stands between. -/
theorem exec_aug_goes {u : Word} (address : augAddress v s = .ok (s.setU u)) :
    exec (.aug v t2 t1 t0) s =
      .next ((((s.setU u).setAug { t2 := t2, t1 := t1, t0 := t0 }).setHalf .lower).setUHeld true) := by
  rw [exec_aug_upper upper, augment, functionCode_lower, if_neg (by simp [ready.2]), if_pos allowed, address]
  exact congrArg Host.Outcome.next (State.advance_upper (s := (s.setU u).setAug _) upper)

end

/-- Settles O54: t is checked first, then v changes the address, or is refused. -/
theorem augment_spec : Obligations.Augment := by
  intro s t2 t1 t0 ready f floating allowed goes x
  refine ⟨fun upper => ?upper, fun lower v => exec_aug_lower ready lower⟩
  case upper =>
    have designators : augAllowed f t2 t1 t0 = true ↔ allowed := augAllowed_iff f t2 t1 t0
    rw [← designators]
    refine ⟨fun disallowed v => exec_aug_disallowed ready upper disallowed, fun permitted => ?permitted⟩
    have replaced (v : Desig) {addr : Addr} (address : augAddress v s = .ok (s.setU (setLowerAddr s.u addr))) :
        goes v addr :=
      ⟨_, exec_aug_goes ready upper permitted address, field_setLowerAddr s.u addr⟩
    refine ⟨⟨s.u, exec_aug_goes ready upper permitted rfl, rfl, rfl⟩,
      fun r modified => replaced _ (augAddress_ix r modified), fun modified installed direct => replaced _ ?direct,
      fun modified installed indirect => exec_aug_refused ready upper permitted ?indirect,
      fun unmodified v named => exec_aug_refused ready upper permitted (augAddress_unmodified unmodified named)⟩
    case direct => rw [augAddress_seven ready.1 modified installed, if_pos direct]
    case indirect => rw [augAddress_seven ready.1 modified installed, if_neg indirect]

/-! ### Bounds (R288, R289) -/

section
variable {s : State} (ready : s.Ready) (y : BitVec 8)
include ready

theorem exec_bounds_legal (legal : s.boundsLocked = false) :
    exec (.eub y) s = .next (s.completed (s.setBu y).advance) ∧
      exec (.elb y) s = .next (s.completed (s.setBl y).advance) := by
  constructor
  · exact (if_neg (by simp [legal])).trans (finishSeq_of ready rfl)
  · exact (if_neg (by simp [legal])).trans (finishSeq_of ready rfl)

theorem exec_bounds_illegal (illegal : s.boundsLocked = true) :
    exec (.eub y) s = .next (s.completed (s.enter .three)) ∧
      exec (.elb y) s = .next (s.completed (s.enter .three)) := by
  have entry : finish s (takeInterrupt .three s) = .next (s.completed (s.enter .three)) := by
    rw [takeInterrupt_ready _ ready.1]
    exact finish_of ready rfl
  exact ⟨(if_pos illegal).trans entry, (if_pos illegal).trans entry⟩

end

theorem State.boundsLocked_iff (s : State) :
    s.boundsLocked = true ↔ s.ctl.active = true ∧ s.mask.getLsbD 42 = true := by
  rw [State.boundsLocked, Bool.and_eq_true]

/-- Settles O55: the lock decides between the register and the Category III entry. -/
theorem boundsInstructions : Obligations.BoundsInstructions := by
  intro s y ready illegal
  rw [← s.boundsLocked_iff, Bool.not_eq_true]
  exact ⟨exec_bounds_legal ready y,
    fun active mask => exec_bounds_illegal ready y (s.boundsLocked_iff.mpr ⟨active, mask⟩)⟩

end Sys2Proof.Machine
end

section
/-! PROOFS. The input/output instructions (spec/46_input_output.md R300 to R313) and the bits of the Interrupt register
(spec/60_exceptions.md R372). -/

namespace Sys2Proof.Machine

/-! ### The Interrupt register (R316) -/

/-- The places of the Interrupt register that have a flip-flop. -/
theorem getLsbD_flipFlops (n : Nat) :
    flipFlops.getLsbD n =
      decide (n ∈ [1, 2, 3, 4, 5, 10, 11, 12, 13, 20, 21, 22, 23, 42, 43, 44, 45, 46]) := by
  by_cases inWord : n < 48
  · have all : ∀ i < 48, flipFlops.getLsbD i =
        decide (i ∈ [1, 2, 3, 4, 5, 10, 11, 12, 13, 20, 21, 22, 23, 42, 43, 44, 45, 46]) := by decide
    exact all n inWord
  · rw [BitVec.getLsbD_of_ge _ _ (Nat.le_of_not_lt inWord), eq_comm, decide_eq_false_iff_not]
    simp only [List.mem_cons, List.not_mem_nil, or_false]
    omega

theorem State.getLsbD_externalLines_channel (s : State) (x : ChanId) :
    s.externalLines.getLsbD (30 + x.index) = decide (s.intLines x ≠ 0) := by
  rw [s.getLsbD_externalLines]
  cases x <;> simp [ChanId.index]

theorem State.getLsbD_externalLines_other (s : State) {n : Nat} (other : n ∉ [30, 31, 32, 33]) :
    s.externalLines.getLsbD n = false := by
  simp only [List.mem_cons, List.not_mem_nil, or_false, not_or] at other
  obtain ⟨h0, h1, h2, h3⟩ := other
  simp [s.getLsbD_externalLines, h0, h1, h2, h3]

/-- Settles O59: a bit is a flip-flop, a line of its channel, or neither. -/
theorem interruptRegisters : Obligations.InterruptRegisters := by
  refine fun s => ⟨fun ready => ⟨finishSeq_of ready rfl, finishSeq_of ready rfl⟩, fun n flipFlop => ?flipFlop,
    fun x => ?line, fun n other => ?other⟩
  case flipFlop =>
    have noLine : n ∉ [30, 31, 32, 33] := by
      simp only [List.mem_cons, List.not_mem_nil, or_false] at flipFlop ⊢
      omega
    rw [s.getLsbD_interrupt, getLsbD_flipFlops, s.getLsbD_externalLines_other noLine, decide_eq_true flipFlop,
      Bool.and_true, Bool.or_false]
  case line =>
    have noFlipFlop : flipFlops.getLsbD (30 + x.index) = false := by cases x <;> decide
    rw [s.getLsbD_interrupt, noFlipFlop, s.getLsbD_externalLines_channel, Bool.and_false, Bool.false_or]
  case other =>
    simp only [List.mem_cons, List.not_mem_nil, or_false, not_or] at other
    rw [s.getLsbD_interrupt, getLsbD_flipFlops, s.getLsbD_externalLines_other (by simp [other]), Bool.or_false,
      decide_eq_false (by simp [other]), Bool.and_false]

/-! ### The channel of an instruction (R300) -/

/-- The instructions that begin with the channel of a digit, and what each does with that channel. -/
def channelOperation (s : State) : Instr → Option (BitVec 3 × (ChanId → Res State))
  | .conn n y c => some (y, fun k => .ok (if (s.chan k).active then reject n s else afterReply n (sendConnect k c s)))
  | .extf n y c => some (y, fun k => .ok (if (s.chan k).active then reject n s else afterReply n (sendFunction k c s)))
  | .begr n y m => some (y, fun k => if (s.chan k).active then .ok (reject n s) else startChannel k .read m s)
  | .begw n y m => some (y, fun k => if (s.chan k).active then .ok (reject n s) else startChannel k .write m s)
  | .copy y => some (y, fun k => .ok ((s.setA (s.chan k).controlWord).setQ (s.statusWord k)).nextStep)
  | .clch y => some (y, fun k => .ok (s.clearChannel k).nextStep)
  | .ccwd y => some (y, fun k => .ok ((s.setChan k
      { s.chan k with wc := upperAddr s.a, ca := lowerAddr s.a }).setA (s.chan k).controlWord).nextStep)
  | _ => none

section
variable {s : State} {i : Instr} {f : ChanId → Res State}

theorem exec_channelOperation {y : BitVec 3} (operation : channelOperation s i = some (y, f)) :
    exec i s = finish s ((channelOf y s).bind f) := by
  unfold channelOperation at operation
  split at operation
  case h_8 => cases operation
  all_goals
    cases operation
    show finish s _ = finish s _
    cases channelOf y s <;> rfl

theorem exec_channel_absent {y : BitVec 3} (operation : channelOperation s i = some (y, f))
    (absent : channelOf y s = .error (.refused .channelNotInstalled)) : exec i s = .refused .channelNotInstalled := by
  rw [exec_channelOperation operation, absent]
  rfl

theorem exec_channel_installed {x : ChanId} {t : State}
    (operation : channelOperation s i = some (BitVec.ofNat 3 x.index, f)) (ready : s.Ready)
    (installed : s.chanInstalled x = true) (effect : f x = .ok t) (quiet : t.inter = s.inter) :
    exec i s = .next (s.completed t) := by
  rw [exec_channelOperation operation, channelOf_installed installed]
  exact (congrArg (finish s) effect).trans (finish_of ready quiet)

end

/-! ### The reject jump (R302) -/

theorem afterReply_eq (n : Addr) (r : Reply × State) :
    afterReply n r = if r.1 = .reply then r.2.nextStep else reject n r.2 := by
  obtain ⟨answer, t⟩ := r
  cases answer <;> rfl

@[simp] theorem afterReply_inter (n : Addr) (r : Reply × State) : (afterReply n r).inter = r.2.inter := by
  rw [afterReply_eq]
  split
  · exact r.2.nextStep_inter
  · exact reject_inter n r.2

/-! ### Connect and function codes (R303, R304) -/

section
variable {s : State}

section
variable (x : ChanId) (c : BitVec 12)

theorem sendConnect_sent (sent : s.codeParity = false) :
    sendConnect x c s =
      ((connectAll x c s.equip).1, (s.setEquip (connectAll x c s.equip).2).setChan x
        { s.chan x with
          conn := if (connectAll x c s.equip).1 = .reply then some (field c 9 3, field c 0 9) else none }) := by
  rw [sendConnect, if_neg (Bool.eq_false_iff.mp sent)]
  cases connectAll x c s.equip with
  | mk answer es => cases answer <;> rfl

theorem sendConnect_parity (parity : s.codeParity = true) : sendConnect x c s = (.silent, s.codeError x .connect) :=
  if_pos parity

@[simp] theorem sendConnect_inter : (sendConnect x c s).2.inter = s.inter := by
  cases parity : s.codeParity with
  | false => rw [sendConnect_sent x c parity]; rfl
  | true => rw [sendConnect_parity x c parity]; rfl

variable {x} {e : BitVec 3} {u : BitVec 9}

theorem sendFunction_unconnected (unconnected : (s.chan x).conn = none) : sendFunction x c s = (.silent, s) := by
  rw [sendFunction, unconnected]

theorem sendFunction_sent (connected : (s.chan x).conn = some (e, u)) (sent : s.codeParity = false) :
    sendFunction x c s =
      ((functionAll x e c (Config.freeBit s.freeCount) s.equip).1,
        (s.setFreeCount (s.freeCount + 1)).setEquip (functionAll x e c (Config.freeBit s.freeCount) s.equip).2) := by
  rw [sendFunction, connected]
  exact if_neg (Bool.eq_false_iff.mp sent)

theorem sendFunction_parity (connected : (s.chan x).conn = some (e, u)) (parity : s.codeParity = true) :
    sendFunction x c s = (.silent, (s.codeError x .function).setFault (20 + x.index)) := by
  rw [sendFunction, connected]
  exact if_pos parity

@[simp] theorem sendFunction_inter : (sendFunction x c s).2.inter = s.inter := by
  cases connection : (s.chan x).conn with
  | none => rw [sendFunction_unconnected c connection]
  | some connected =>
    cases parity : s.codeParity with
    | false => rw [sendFunction_sent c connection parity]; rfl
    | true => rw [sendFunction_parity c connection parity]; rfl

end

section
variable {x : ChanId} {n : Addr} {c : BitVec 12} (ready : s.Ready) (installed : s.chanInstalled x = true)
include ready installed

/-- A busy channel turns all four instructions with a reject jump away. -/
theorem exec_busy (busy : (s.chan x).active = true) (m : Addr) :
    (exec (.conn n (BitVec.ofNat 3 x.index) c) s = .next (s.completed (reject n s)) ∧
      exec (.extf n (BitVec.ofNat 3 x.index) c) s = .next (s.completed (reject n s))) ∧
    exec (.begr n (BitVec.ofNat 3 x.index) m) s = .next (s.completed (reject n s)) ∧
      exec (.begw n (BitVec.ofNat 3 x.index) m) s = .next (s.completed (reject n s)) := by
  have turnedAway {i : Instr} {f : ChanId → Res State}
      (operation : channelOperation s i = some (BitVec.ofNat 3 x.index, f)) (rejects : f x = .ok (reject n s)) :=
    exec_channel_installed operation ready installed rejects (reject_inter n s)
  exact ⟨⟨turnedAway rfl (congrArg _ (if_pos busy)), turnedAway rfl (congrArg _ (if_pos busy))⟩,
    turnedAway rfl (if_pos busy), turnedAway rfl (if_pos busy)⟩

variable (idle : (s.chan x).active = false)
include idle

theorem exec_conn_idle :
    exec (.conn n (BitVec.ofNat 3 x.index) c) s = .next (s.completed (afterReply n (sendConnect x c s))) :=
  exec_channel_installed rfl ready installed (congrArg _ (if_neg (Bool.eq_false_iff.mp idle))) (by simp)

theorem exec_extf_idle :
    exec (.extf n (BitVec.ofNat 3 x.index) c) s = .next (s.completed (afterReply n (sendFunction x c s))) :=
  exec_channel_installed rfl ready installed (congrArg _ (if_neg (Bool.eq_false_iff.mp idle))) (by simp)

end

end

/-- Settles O56: a busy channel rejects; an idle one goes where the answer to the code sends it. -/
theorem connectFunction : Obligations.ConnectFunction := by
  intro s x n c ready k digit rejects conn extf answer noted
  have refused (y : BitVec 3) (absent : channelOf y s = .error (.refused .channelNotInstalled)) :
      exec (.conn n y c) s = .refused .channelNotInstalled ∧ exec (.extf n y c) s = .refused .channelNotInstalled :=
    ⟨exec_channel_absent rfl absent, exec_channel_absent rfl absent⟩
  refine ⟨fun installed => ⟨fun busy => (exec_busy ready installed busy 0).1, ?connect, ?connectParity,
    ?unconnected, ?function, ?functionParity⟩, fun absent => refused digit (channelOf_absent absent),
    fun y high => refused y (channelOf_high high)⟩
  case connect =>
    intro idle sent
    have goes : conn (afterReply n (sendConnect x c s)) := exec_conn_idle ready installed idle
    rw [afterReply_eq, sendConnect_sent x c sent] at goes
    refine ⟨fun (replies : (connectAll x c s.equip).1 = .reply) => ?_,
      fun (refuses : (connectAll x c s.equip).1 ≠ .reply) => ?_⟩
    · rwa [if_pos replies, if_pos replies] at goes
    · rwa [if_neg refuses, if_neg refuses] at goes
  case connectParity =>
    intro idle parity
    have goes : conn (afterReply n (sendConnect x c s)) := exec_conn_idle ready installed idle
    rwa [sendConnect_parity x c parity] at goes
  case unconnected =>
    intro idle unconnected
    have goes : extf (afterReply n (sendFunction x c s)) := exec_extf_idle ready installed idle
    rwa [sendFunction_unconnected c unconnected] at goes
  case function =>
    intro e u idle connected sent
    have goes : extf (afterReply n (sendFunction x c s)) := exec_extf_idle ready installed idle
    rwa [sendFunction_sent c connected sent, afterReply_eq] at goes
  case functionParity =>
    intro e u idle connected parity
    have goes : extf (afterReply n (sendFunction x c s)) := exec_extf_idle ready installed idle
    rwa [sendFunction_parity c connected parity] at goes

/-! ### Reads and writes (R305, R306) -/

theorem startChannel_ready {s : State} (ready : s.Ready) {m : Addr} (present : s.installed m = true)
    (x : ChanId) (d : Dir) :
    startChannel x d m s = .ok ((s.setChan x
      { s.chan x with
        wc := field (s.mem.readWord m) 24 15, ca := field (s.mem.readWord m) 0 15, active := true, dir := d }).setEquip
        (onChannel x (fun e => e.device.start d) s.equip)).nextStep := by
  rw [startChannel, readMem_ready ready.1 present]
  rfl

/-- Settles O57: a busy channel rejects; an idle one starts from its control word. -/
theorem readWrite : Obligations.ReadWrite := by
  intro s x n m ready k digit w rejects starts
  have refused (y : BitVec 3) (absent : channelOf y s = .error (.refused .channelNotInstalled)) :
      exec (.begr n y m) s = .refused .channelNotInstalled ∧ exec (.begw n y m) s = .refused .channelNotInstalled :=
    ⟨exec_channel_absent rfl absent, exec_channel_absent rfl absent⟩
  refine ⟨fun installed => ⟨fun busy => (exec_busy (c := 0) ready installed busy m).2,
    fun idle present => ?starts⟩, fun absent => refused digit (channelOf_absent absent),
    fun y high => refused y (channelOf_high high)⟩
  case starts =>
    have begins {i : Instr} (d : Dir) (operation : channelOperation s i = some (digit, fun y =>
        if (s.chan y).active then .ok (reject n s) else startChannel y d m s)) :
        exec i s = .next (s.completed (starts d)) :=
      exec_channel_installed operation ready installed
        ((if_neg (Bool.eq_false_iff.mp idle)).trans (startChannel_ready ready present x d)) rfl
    exact ⟨begins .read rfl, begins .write rfl⟩

/-! ### The registers of a channel (R308, R311, R312) -/

/-- A bit of the pair lies in the lower field, in the zeros above it, or in the upper field. -/
theorem append_zeros_eq {p m q n : Nat} (u : BitVec m) (v : BitVec n) :
    (0#p ++ u ++ 0#q ++ v : BitVec (p + m + q + n)) = u.setWidth _ <<< (q + n) ||| v.setWidth _ := by
  have uHigh (i : Nat) (above : m ≤ i) : u.getLsbD i = false := BitVec.getLsbD_of_ge _ _ above
  have vHigh (i : Nat) (above : n ≤ i) : v.getLsbD i = false := BitVec.getLsbD_of_ge _ _ above
  refine BitVec.eq_of_getLsbD_eq fun j hj => ?_
  grind

theorem Channel.controlWord_eq (k : Channel) :
    k.controlWord = k.wc.setWidth 48 <<< 24 ||| k.ca.setWidth 48 := append_zeros_eq k.wc k.ca

theorem State.statusWord_eq (s : State) (x : ChanId) :
    s.statusWord x = (s.intLines x).setWidth 48 <<< 24 ||| (s.status x).setWidth 48 :=
  append_zeros_eq (s.intLines x) (s.status x)

/-- Settles O58: the words of COPY and CCWD are two fields each, and CLCH is a clear with no Auto Load to start. -/
theorem channelRegisters : Obligations.ChannelRegisters := by
  intro s x ready k digit control lines ended
  have refused (y : BitVec 3) (absent : channelOf y s = .error (.refused .channelNotInstalled)) :
      exec (.copy y) s = .refused .channelNotInstalled ∧ exec (.ccwd y) s = .refused .channelNotInstalled ∧
        exec (.clch y) s = .refused .channelNotInstalled :=
    ⟨exec_channel_absent rfl absent, exec_channel_absent rfl absent, exec_channel_absent rfl absent⟩
  refine ⟨fun installed => ⟨?copy, ?ccwd, fun noLoad => ?clch⟩,
    fun absent => refused digit (channelOf_absent absent), fun y high => refused y (channelOf_high high)⟩
  case copy =>
    rw [← show k.controlWord = control from k.controlWord_eq, ← show s.statusWord x = lines from s.statusWord_eq x]
    exact exec_channel_installed rfl ready installed rfl rfl
  case ccwd =>
    rw [← show k.controlWord = control from k.controlWord_eq]
    exact exec_channel_installed rfl ready installed rfl rfl
  case clch =>
    have clears := congrArg (fun t : State => Except.ok (ε := Stop) t.nextStep)
      (State.clearWith_eq Device.clear noLoad)
    exact ⟨_, exec_channel_installed rfl ready installed clears rfl, fun n => clearWith_bit⟩

end Sys2Proof.Machine
end

section
/-! PROOFS. The channel as an agent: what one event of a channel does (spec/46_input_output.md R307, R314, R315, R317,
R318, spec/48_external_equipment.md R346, R365, R369). -/

namespace Sys2Proof.Machine

/-! ### What an event needs -/

/-- Channel x is not installed or not active, so that no operation is in progress on it. -/
def State.ChannelIdle (s : State) (x : ChanId) : Prop := s.chanInstalled x = false ∨ (s.chan x).active = false

/-- Channel x is installed and performs a Read. -/
def State.ChannelReads (s : State) (x : ChanId) : Prop :=
  s.chanInstalled x = true ∧ (s.chan x).active = true ∧ (s.chan x).dir = .read

/-- Channel x is installed and performs a Write. -/
def State.ChannelWrites (s : State) (x : ChanId) : Prop :=
  s.chanInstalled x = true ∧ (s.chan x).active = true ∧ (s.chan x).dir = .write

/-- Words and an End of Record reach channel x, as the model tests it. -/
def State.receives (s : State) (x : ChanId) : Bool := s.chanInstalled x && s.reading x

/-- A typewriter of channel x is connected. -/
def State.typewriterAt (s : State) (x : ChanId) : Bool :=
  s.equip.any (fun e => decide (e.channel = x) && e.device.typewriterConnected)

/-- Equipment n of channel x is a coupler whose other division drops its Write with the change to `d`. -/
def State.dropsWrite (s : State) (x : ChanId) (n : BitVec 3) (d : Device) : Bool :=
  s.equip.any (fun e => e.isAt x n && e.device.writeDrops d)

section
variable {s : State} {x : ChanId}

theorem State.receives_iff : s.receives x = true ↔ s.ChannelReads x := by
  rw [State.receives, Bool.and_eq_true, State.reading_iff, State.ChannelReads]

theorem State.ChannelReads.reading (reads : s.ChannelReads x) : s.reading x = true := State.reading_iff.mpr reads.2

theorem State.channelReads_of_reading (installed : s.chanInstalled x = true) (reading : s.reading x = true) :
    s.ChannelReads x :=
  ⟨installed, State.reading_iff.mp reading⟩

theorem State.channelIdle_iff : s.ChannelIdle x ↔ ¬(s.chanInstalled x && (s.chan x).active) = true := by
  rw [State.ChannelIdle, Bool.and_eq_true, not_and_or, Bool.not_eq_true, Bool.not_eq_true]

theorem State.busy_of_moves (moves : s.ChannelReads x ∨ s.ChannelWrites x) :
    (s.chanInstalled x && (s.chan x).active) = true := by
  rcases moves with ⟨installed, active, -⟩ | ⟨installed, active, -⟩
  · exact Bool.and_eq_true_iff.mpr ⟨installed, active⟩
  · exact Bool.and_eq_true_iff.mpr ⟨installed, active⟩

theorem State.not_receives_of_idle_or_writes (other : s.ChannelIdle x ∨ s.ChannelWrites x) :
    ¬s.receives x = true := by
  rw [State.receives_iff]
  intro reads
  rcases other with idle | ⟨-, -, write⟩
  · exact State.channelIdle_iff.mp idle (State.busy_of_moves (.inl reads))
  · exact Dir.noConfusion (reads.2.2.symm.trans write)

variable (s x)

theorem State.typewriterAt_iff :
    s.typewriterAt x = true ↔
      ∃ e ∈ s.equip, e.channel = x ∧ ∃ d : Typewriter, e.device = .typewriter d ∧ d.connected = true := by
  have device (d : Device) :
      d.typewriterConnected = true ↔ ∃ w : Typewriter, d = .typewriter w ∧ w.connected = true := by
    cases d <;> simp [Device.typewriterConnected]
  simp [State.typewriterAt, device]

theorem State.dropsWrite_iff (n : BitVec 3) (d : Device) :
    s.dropsWrite x n d = true ↔
      ∃ e ∈ s.equip, e.isAt x n = true ∧ ∃ old now : Coupler, e.device = .coupler old ∧ d = .coupler now ∧
        old.connected = true ∧ old.otherWrite = true ∧ now.otherWrite = false := by
  have device (o : Device) :
      o.writeDrops d = true ↔ ∃ old now : Coupler, o = .coupler old ∧ d = .coupler now ∧
        old.connected = true ∧ old.otherWrite = true ∧ now.otherWrite = false := by
    cases o <;> cases d <;> simp [Device.writeDrops, and_assoc]
  simp [State.dropsWrite, device]

theorem Console.locked_iff (c : Console) : c.locked = true ↔ c.systemActive = false ∧ c.maintenance = false := by
  simp [Console.locked]

end

/-! ### The effect of each event -/

section
variable (s : State) (x : ChanId)

theorem channelEvent_deliver (b1 b2 b3 b4 : BitVec 12) :
    channelEvent (.deliver x b1 b2 b3 b4) s =
      if s.receives x then
        if (s.chan x).wc = 0 then .ok (s.channelHalt x)
        else if s.inputFree x Device.freeInput then s.channelStore x (b1 ++ b2 ++ b3 ++ b4) else .ok s
      else .ok s := by
  simp only [State.receives, Bool.and_eq_true, ite_and]
  rfl

theorem channelEvent_endOfRecord :
    channelEvent (.endOfRecord x) s =
      if s.receives x then if s.inputFree x Device.ends then .ok (s.channelHalt x) else .ok s else .ok s := by
  simp only [State.receives, Bool.and_eq_true, ite_and]
  refine if_congr Iff.rfl ?_ rfl
  simp only [installedEvent, Bool.and_eq_true, ite_and]

/-- The End-of-Record switch at one channel, inside an instruction or between two (R346). -/
theorem State.endOfRecordAt_eq :
    (if s.chanInstalled x then s.endOfRecordAt x else s) =
      if s.receives x && s.typewriterAt x then s.channelHalt x else s := by
  simp only [State.receives, Bool.and_eq_true, and_assoc, ite_and]
  refine if_congr Iff.rfl ?_ rfl
  simp only [State.endOfRecordAt, Bool.and_eq_true, ite_and]
  rfl

theorem channelEvent_endOfRecordSwitch :
    channelEvent (.endOfRecordSwitch x) s =
      .ok (if s.console.locked then s else if s.receives x && s.typewriterAt x then s.channelHalt x else s) := by
  rw [← State.endOfRecordAt_eq]
  cases installed : s.chanInstalled x with
  | false => exact (channelEvent_absent (e := .endOfRecordSwitch x) installed).trans (by simp)
  | true => exact channelEvent_installed installed

theorem channelEvent_take :
    channelEvent (.take x) s =
      if s.chanInstalled x && (s.chan x).active then
        if (s.chan x).wc = 0 then .ok (s.channelHalt x)
        else if (s.chan x).dir = .read ∨ s.writeBlocked x = true then .ok s
        else s.channelSend x
      else .ok s := by
  simp only [Bool.and_eq_true, ite_and]
  refine if_congr Iff.rfl (if_congr Iff.rfl (if_congr Iff.rfl rfl ?_) rfl) rfl
  cases (s.chan x).dir with
  | read => rfl
  | write => simp

theorem channelEvent_key (n : BitVec 3) (code : BitVec 6) :
    channelEvent (.key x n code) s =
      if s.chanInstalled x && s.typewriterOn x n then s.pressKey x n code else .ok s := by
  simp only [Bool.and_eq_true, ite_and]
  rfl

theorem channelEvent_mechanism (n : BitVec 3) (d : Device) :
    channelEvent (.mechanism x n d) s =
      .ok (if s.chanInstalled x && s.equip.any (fun e => e.isAt x n) then s.equipmentEvent x n none d else s) := by
  simp only [Bool.and_eq_true, ite_and, apply_ite Except.ok]
  exact if_congr Iff.rfl (apply_ite Except.ok _ _ _) rfl

end

/-! ### A word stored, a word sent, an operation ended -/

section
variable {s : State} {x : ChanId}

theorem State.channelStore_installed (wf : s.mem.wf = true) (installed : s.installed (s.chan x).ca = true) (w : Word) :
    ∃ v, s.channelStore x w = .ok ((s.setMem v).setChan x (s.chan x).count) ∧ v.readWord (s.chan x).ca = w ∧
      ∀ k, outsideWord (s.chan x).ca k → v.readByte k = s.mem.readByte k :=
  ⟨_, if_pos installed, Memory.writeWord_spec wf⟩

theorem State.channelSend_installed (installed : s.installed (s.chan x).ca = true) :
    s.channelSend x =
      .ok ((s.setEquip (onChannel x (fun e => e.device.receive (s.mem.readWord (s.chan x).ca)) s.equip)).setChan x
        { (s.chan x).count with sent := (s.chan x).sent ++ wordBytes (s.mem.readWord (s.chan x).ca) }) :=
  if_pos installed

/-- The end of an operation, with the equipments as a mechanism or a key has left them. -/
theorem State.channelHalt_setEquip (s : State) (x : ChanId) (es : List Attached) :
    (s.setEquip es).channelHalt x =
      (((s.setChan x { s.chan x with active := false }).setIntr (s.intr ||| bitWord (10 + x.index))).setEquip
        (onChannel x (fun e => e.device.endTransfer (s.chan x).dir) es)).autoStart x := rfl

theorem State.autoStart_chans (s : State) (x : ChanId) : (s.autoStart x).chans = s.chans := by
  unfold State.autoStart
  split <;> rfl

/-- The end of an operation touches no other channel. -/
theorem State.channelHalt_chan_ne {y : ChanId} (other : y ≠ x) : (s.channelHalt x).chan y = s.chan y := by
  rw [State.chan, State.channelHalt, State.autoStart_chans]
  exact Channels.get_put_ne s.chans x y _ other

theorem State.endOfRecordAt_reading_ne {y : ChanId} (other : y ≠ x) :
    (s.endOfRecordAt x).reading y = s.reading y := by
  rcases s.endOfRecordAt_cases x with same | ⟨-, halted⟩
  · rw [same]
  · rw [halted, State.reading, State.reading, State.channelHalt_chan_ne other]

/-- Of several channels the End-of-Record switch works at the only one that may read. -/
theorem foldl_endOfRecordAt {ys : List ChanId} (nodup : ys.Nodup) (others : ∀ y, y ≠ x → s.reading y = false) :
    ys.foldl (fun t y => if t.chanInstalled y then t.endOfRecordAt y else t) s =
      if x ∈ ys then if s.chanInstalled x then s.endOfRecordAt x else s else s := by
  induction ys generalizing s with
  | nil => rfl
  | cons y ys ih =>
    obtain ⟨fresh, nodup⟩ := List.nodup_cons.mp nodup
    rw [List.foldl_cons]
    by_cases same : y = x
    · subst same
      rw [ih nodup, if_neg fresh, if_pos List.mem_cons_self]
      intro z other
      split
      · rw [State.endOfRecordAt_reading_ne other, others z other]
      · exact others z other
    · rw [State.endOfRecordAt_idle (others y same), ite_self, ih nodup others]
      simp [Ne.symm same]

theorem State.endOfRecordSwitch_eq (others : ∀ y, y ≠ x → s.reading y = false) :
    s.endOfRecordSwitch = if s.receives x && s.typewriterAt x then s.channelHalt x else s := by
  rw [← State.endOfRecordAt_eq]
  exact (foldl_endOfRecordAt (by decide) others).trans (if_pos x.mem_all)

theorem step_channel {e : ChannelEvent} {rest : List Event} {t : State} (env : s.env = .channel e :: rest)
    (event : channelEvent e (s.setEnv rest) = .ok t) : step s = .next t := by
  simp only [step, env, handle, event]
  rfl

theorem step_endOfRecordSwitch {rest : List Event}
    (switch : s.env = .channel (.endOfRecordSwitch x) :: rest ∨
      (s.env = .endOfRecordSwitch :: rest ∧ ∀ y, y ≠ x → s.reading y = false)) :
    step s = .next (if s.console.locked then s.setEnv rest
      else if s.receives x && s.typewriterAt x then (s.setEnv rest).channelHalt x else s.setEnv rest) := by
  rcases switch with inside | ⟨between, others⟩
  · refine step_channel inside ?_
    rw [channelEvent_endOfRecordSwitch]
    rfl
  · have every := State.endOfRecordSwitch_eq (s := s.setEnv rest) others
    simp only [step, between, handle, unlessLocked, every]
    exact (apply_ite Host.Outcome.next _ _ _).symm

end

/-! ### An event of a mechanism during a Read -/

section
variable {s : State} {x : ChanId} {does : Device → Supply × Device} (reading : s.reading x = true)
include reading

theorem State.supply_zero (zero : (s.chan x).wc = 0) : s.supply x does = .ok ((s.channelHalt x).moved x does) :=
  (State.supply_reading reading).trans (if_pos zero)

variable (more : (s.chan x).wc ≠ 0)
include more

theorem State.supply_none (none : supplied x does s.equip = .none) : s.supply x does = .ok (s.moved x does) := by
  rw [State.supply_reading reading, if_neg more, none]

theorem State.supply_endOfRecord (ends : supplied x does s.equip = .endOfRecord) :
    s.supply x does = .ok ((s.moved x does).channelHalt x) := by
  rw [State.supply_reading reading, if_neg more, ends]

theorem State.supply_word {w : Word} (word : supplied x does s.equip = .word w) :
    s.supply x does = (s.moved x does).channelStore x w := by
  rw [State.supply_reading reading, if_neg more, word]

end

/-! ### One step of the channel -/

section
variable {s : State} {x : ChanId} {rest : List Event}

/-- The next step stores a word at the channel's address, with the equipments as they then are. -/
def State.StoresNext (s : State) (x : ChanId) (rest : List Event) (es : List Attached) (w : Word) : Prop :=
  s.installed (s.chan x).ca = true →
    ∃ v, step s = .next ((((s.setEnv rest).setEquip es).setMem v).setChan x (s.chan x).count) ∧
      v.readWord (s.chan x).ca = w ∧ ∀ k, outsideWord (s.chan x).ca k → v.readByte k = s.mem.readByte k

theorem storesNext_of_channelStore {e : ChannelEvent} {es : List Attached} {w : Word} (wf : s.mem.wf = true)
    (env : s.env = .channel e :: rest)
    (event : channelEvent e (s.setEnv rest) = ((s.setEnv rest).setEquip es).channelStore x w) :
    s.StoresNext x rest es w := by
  intro installed
  obtain ⟨v, store, word, others⟩ := State.channelStore_installed (s := (s.setEnv rest).setEquip es) wf installed w
  exact ⟨v, step_channel env (event.trans store), word, others⟩

theorem step_deliver {b1 b2 b3 b4 : BitVec 12} (wf : s.mem.wf = true)
    (env : s.env = .channel (.deliver x b1 b2 b3 b4) :: rest) :
    (s.ChannelIdle x ∨ s.ChannelWrites x → step s = .next (s.setEnv rest)) ∧
    (s.ChannelReads x → (s.chan x).wc = 0 → step s = .next ((s.setEnv rest).channelHalt x)) ∧
    (s.ChannelReads x → (s.chan x).wc ≠ 0 → s.inputFree x Device.freeInput = false →
      step s = .next (s.setEnv rest)) ∧
    (s.ChannelReads x → (s.chan x).wc ≠ 0 → s.inputFree x Device.freeInput = true →
      s.StoresNext x rest s.equip (b1 ++ b2 ++ b3 ++ b4)) := by
  have event := channelEvent_deliver (s.setEnv rest) x b1 b2 b3 b4
  have delivered (reads : s.ChannelReads x) := event.trans (if_pos (State.receives_iff.mpr reads))
  exact ⟨fun other => step_channel env (event.trans (if_neg (s.not_receives_of_idle_or_writes other))),
    fun reads zero => step_channel env ((delivered reads).trans (if_pos zero)),
    fun reads more bound => step_channel env
      ((delivered reads).trans ((if_neg more).trans (if_neg (Bool.eq_false_iff.mp bound)))),
    fun reads more free => storesNext_of_channelStore wf env
      ((delivered reads).trans ((if_neg more).trans (if_pos free)))⟩

theorem step_endOfRecord (env : s.env = .channel (.endOfRecord x) :: rest) :
    (s.ChannelIdle x ∨ s.ChannelWrites x → step s = .next (s.setEnv rest)) ∧
    (s.ChannelReads x → s.inputFree x Device.ends = false → step s = .next (s.setEnv rest)) ∧
    (s.ChannelReads x → s.inputFree x Device.ends = true → step s = .next ((s.setEnv rest).channelHalt x)) := by
  have event := channelEvent_endOfRecord (s.setEnv rest) x
  have signalled (reads : s.ChannelReads x) := event.trans (if_pos (State.receives_iff.mpr reads))
  exact ⟨fun other => step_channel env (event.trans (if_neg (s.not_receives_of_idle_or_writes other))),
    fun reads bound => step_channel env ((signalled reads).trans (if_neg (Bool.eq_false_iff.mp bound))),
    fun reads free => step_channel env ((signalled reads).trans (if_pos free))⟩

/-- All three conditions have to hold for the switch to end the Read. -/
theorem step_endOfRecordSwitch_cases
    (switch : s.env = .channel (.endOfRecordSwitch x) :: rest ∨
      (s.env = .endOfRecordSwitch :: rest ∧ ∀ y, y ≠ x → s.reading y = false)) :
    (¬(s.ChannelReads x ∧ s.typewriterAt x = true) ∨ s.console.locked = true → step s = .next (s.setEnv rest)) ∧
    (s.ChannelReads x → s.typewriterAt x = true → ¬s.console.locked = true →
      step s = .next ((s.setEnv rest).channelHalt x)) := by
  have switched := step_endOfRecordSwitch switch
  have ends : (s.receives x && s.typewriterAt x) = true ↔ s.ChannelReads x ∧ s.typewriterAt x = true := by
    rw [Bool.and_eq_true, State.receives_iff]
  refine ⟨fun nothing => switched.trans (congrArg _ ?_), fun reads typewriter unlocked =>
    switched.trans (congrArg _ ((if_neg unlocked).trans (if_pos (ends.mpr ⟨reads, typewriter⟩))))⟩
  rcases nothing with other | locked
  · rw [if_neg (mt ends.mp other), ite_self]
  · exact if_pos locked

theorem step_take (env : s.env = .channel (.take x) :: rest) :
    (s.ChannelIdle x → step s = .next (s.setEnv rest)) ∧
    (s.ChannelReads x ∨ s.ChannelWrites x → (s.chan x).wc = 0 → step s = .next ((s.setEnv rest).channelHalt x)) ∧
    (s.ChannelReads x → (s.chan x).wc ≠ 0 → step s = .next (s.setEnv rest)) ∧
    (s.ChannelWrites x → (s.chan x).wc ≠ 0 → s.writeBlocked x = true → step s = .next (s.setEnv rest)) ∧
    (s.ChannelWrites x → (s.chan x).wc ≠ 0 → s.writeBlocked x = false → s.installed (s.chan x).ca = true →
      step s = .next (((s.setEnv rest).setEquip
        (onChannel x (fun e => e.device.receive (s.mem.readWord (s.chan x).ca)) s.equip)).setChan x
        { (s.chan x).count with sent := (s.chan x).sent ++ wordBytes (s.mem.readWord (s.chan x).ca) })) := by
  have event := channelEvent_take (s.setEnv rest) x
  have taken (moves : s.ChannelReads x ∨ s.ChannelWrites x) := event.trans (if_pos (s.busy_of_moves moves))
  have sends (writes : s.ChannelWrites x) (free : s.writeBlocked x = false) :
      ¬((s.chan x).dir = .read ∨ s.writeBlocked x = true) := by
    simp [writes.2.2, free]
  exact ⟨fun idle => step_channel env (event.trans (if_neg (s.channelIdle_iff.mp idle))),
    fun moves zero => step_channel env ((taken moves).trans (if_pos zero)),
    fun reads more => step_channel env ((taken (.inl reads)).trans ((if_neg more).trans (if_pos (.inl reads.2.2)))),
    fun writes more blocked => step_channel env
      ((taken (.inr writes)).trans ((if_neg more).trans (if_pos (.inr blocked)))),
    fun writes more free installed => step_channel env ((taken (.inr writes)).trans ((if_neg more).trans
      ((if_neg (sends writes free)).trans (State.channelSend_installed installed))))⟩

/-- The equipments of channel x after a key of the typewriter at equipment n. -/
def State.keyed (s : State) (x : ChanId) (n : BitVec 3) (code : BitVec 6) : List Attached :=
  onChannel x (fun e => if e.number = n then e.device.key code (s.writing x) else e.device) s.equip

theorem step_key {n : BitVec 3} {code : BitVec 6} (wf : s.mem.wf = true)
    (env : s.env = .channel (.key x n code) :: rest) :
    let typed := s.chanInstalled x = true ∧ s.typewriterOn x n = true
    let keyed := (s.setEnv rest).setEquip (s.keyed x n code)
    (¬typed → step s = .next (s.setEnv rest)) ∧
    (typed → ¬s.ChannelReads x → step s = .next keyed) ∧
    (typed → s.ChannelReads x → (s.chan x).wc = 0 → step s = .next (keyed.channelHalt x)) ∧
    (typed → s.ChannelReads x → (s.chan x).wc ≠ 0 →
      s.StoresNext x rest (s.keyed x n code) (code.setWidth 48)) := by
  intro typed keyed
  have event := channelEvent_key (s.setEnv rest) x n code
  have pressed (on : typed) : channelEvent (.key x n code) (s.setEnv rest) =
      if s.reading x then
        if (s.chan x).wc = 0 then .ok (keyed.channelHalt x) else keyed.channelStore x (code.setWidth 48)
      else .ok keyed :=
    event.trans (if_pos (Bool.and_eq_true_iff.mpr on))
  exact ⟨fun off => step_channel env (event.trans (if_neg (mt Bool.and_eq_true_iff.mp off))),
    fun on other => step_channel env ((pressed on).trans (if_neg (mt (s.channelReads_of_reading on.1) other))),
    fun on reads zero => step_channel env ((pressed on).trans ((if_pos reads.reading).trans (if_pos zero))),
    fun on reads more => storesNext_of_channelStore wf env
      ((pressed on).trans ((if_pos reads.reading).trans (if_neg more)))⟩

theorem step_mechanism {n : BitVec 3} {d : Device} (env : s.env = .channel (.mechanism x n d) :: rest) :
    let cabled := s.chanInstalled x = true ∧ ∃ e ∈ s.equip, e.isAt x n = true
    let changed := (s.setEnv rest).setEquip (replaceEquipment x n none d s.equip)
    (¬cabled → step s = .next (s.setEnv rest)) ∧
    (cabled → ¬(s.ChannelReads x ∧ s.dropsWrite x n d = true) → step s = .next changed) ∧
    (s.ChannelReads x → s.dropsWrite x n d = true → step s = .next (changed.channelHalt x)) := by
  intro cabled changed
  have event := channelEvent_mechanism (s.setEnv rest) x n d
  have cabled_iff : (s.chanInstalled x && s.equip.any (fun e => e.isAt x n)) = true ↔ cabled := by
    rw [Bool.and_eq_true, List.any_eq_true]
  have moved (cable : cabled) : channelEvent (.mechanism x n d) (s.setEnv rest) =
      .ok (if s.dropsWrite x n d && s.reading x then changed.channelHalt x else changed) :=
    event.trans (congrArg _ (if_pos (cabled_iff.mpr cable)))
  refine ⟨fun none => step_channel env (event.trans (congrArg _ (if_neg (mt cabled_iff.mp none)))),
    fun cable other => step_channel env ((moved cable).trans (congrArg _ (if_neg fun ends => ?_))),
    fun reads drops => ?_⟩
  · obtain ⟨drops, reading⟩ := Bool.and_eq_true_iff.mp ends
    exact other ⟨s.channelReads_of_reading cable.1 reading, drops⟩
  · obtain ⟨e, cable, place, -⟩ := (s.dropsWrite_iff x n d).mp drops
    exact step_channel env ((moved ⟨reads.1, e, cable, place⟩).trans
      (congrArg _ (if_pos (Bool.and_eq_true_iff.mpr ⟨drops, reads.reading⟩))))

/-- The equipments of channel x after one event of their mechanisms. -/
def State.mechanized (s : State) (x : ChanId) (does : Device → Supply × Device) : List Attached :=
  onChannel x (fun e => (does e.device).2) s.equip

/-- An event of the mechanisms of a channel, whatever they do at it. -/
theorem step_supply {e : ChannelEvent} {does : Device → Supply × Device} (wf : s.mem.wf = true) (chan : e.chan = x)
    (effect : ∀ t, installedEvent e t = t.supply x does) (env : s.env = .channel e :: rest) :
    (s.chanInstalled x = false → step s = .next (s.setEnv rest)) ∧
    (s.chanInstalled x = true → ¬s.ChannelReads x →
      step s = .next ((s.setEnv rest).setEquip (s.mechanized x does))) ∧
    (s.ChannelReads x → (s.chan x).wc = 0 → step s = .next (((s.setEnv rest).channelHalt x).moved x does)) ∧
    (s.ChannelReads x → (s.chan x).wc ≠ 0 → supplied x does s.equip = .none →
      step s = .next ((s.setEnv rest).setEquip (s.mechanized x does))) ∧
    (s.ChannelReads x → (s.chan x).wc ≠ 0 → supplied x does s.equip = .endOfRecord →
      step s = .next (((s.setEnv rest).setEquip (s.mechanized x does)).channelHalt x)) ∧
    (s.ChannelReads x → (s.chan x).wc ≠ 0 → ∀ w, supplied x does s.equip = .word w →
      s.StoresNext x rest (s.mechanized x does) w) := by
  subst chan
  have present (installed : s.chanInstalled e.chan = true) :
      channelEvent e (s.setEnv rest) = (s.setEnv rest).supply e.chan does :=
    (channelEvent_installed (s := s.setEnv rest) installed).trans (effect _)
  exact ⟨fun absent => step_channel env (channelEvent_absent (s := s.setEnv rest) absent),
    fun installed other => step_channel env ((present installed).trans (State.supply_idle
      (Bool.eq_false_iff.mpr (mt (s.channelReads_of_reading installed) other)))),
    fun reads zero => step_channel env ((present reads.1).trans (State.supply_zero reads.reading zero)),
    fun reads more none => step_channel env ((present reads.1).trans (State.supply_none reads.reading more none)),
    fun reads more ends => step_channel env
      ((present reads.1).trans (State.supply_endOfRecord reads.reading more ends)),
    fun reads more w word => storesNext_of_channelStore wf env
      ((present reads.1).trans (State.supply_word (s := s.setEnv rest) reads.reading more word))⟩

end

/-- Settles O60: event by event, the end of an operation written out once. -/
theorem channelAgent : Obligations.ChannelAgent := by
  intro s x rest b1 b2 b3 b4 f g n code d wf t k counted idle reads writes halted types stored mechanism
  have halts (es : List Attached) : ((s.setEnv rest).setEquip es).channelHalt x = halted es :=
    (s.setEnv rest).channelHalt_setEquip x es
  have haltsNow : (s.setEnv rest).channelHalt x = halted s.equip := halts s.equip
  clear_value halted
  have supplies {e : ChannelEvent} {does : Device → Supply × Device} (chan : e.chan = x)
      (effect : ∀ u, installedEvent e u = u.supply x does) : mechanism e does := by
    intro env
    have stepped := step_supply wf chan effect env
    rw [haltsNow, halts] at stepped
    exact stepped
  refine ⟨fun env => ?deliver, fun env => ?endOfRecord, fun env => ?switch, fun env => ?take, fun env => ?key,
    fun env => ?mechanism, supplies rfl fun _ => rfl, supplies rfl fun _ => rfl, supplies rfl fun _ => rfl, ?sum⟩
  case deliver =>
    rw [← haltsNow]
    exact step_deliver wf env
  case endOfRecord =>
    rw [← haltsNow]
    exact step_endOfRecord env
  case switch =>
    intro locked
    have types_iff : s.typewriterAt x = true ↔ types := s.typewriterAt_iff x
    have locked_iff : s.console.locked = true ↔ locked := s.console.locked_iff
    rw [← haltsNow, ← types_iff, ← locked_iff]
    exact step_endOfRecordSwitch_cases env
  case take =>
    rw [← haltsNow]
    exact step_take env
  case key =>
    intro es
    rw [← halts]
    exact step_key wf env
  case mechanism =>
    intro es cabled drops
    have drops_iff : s.dropsWrite x n d = true ↔ drops := s.dropsWrite_iff x n d
    rw [← halts, ← drops_iff]
    exact step_mechanism env
  case sum => exact sub_add_add_cancel k.wc k.ca 1

end Sys2Proof.Machine
end

section
/-! PROOFS. A property that the operations inside an instruction keep holds after every instruction. Of a state such a
property sees the Interrupt register, storage, the channel events to come and what the bounds check reads, its `Guard`;
every other write of a register leaves the guard as it is. -/

namespace Sys2Proof.Machine

/-! ### The guard of a state -/

/-- What the statements on storage and on the Interrupt register read of a state. -/
structure Guard where
  intr : Word
  mem : Memory
  inter : List (List ChannelEvent)
  active : Bool
  lock1 : Bool
  mask : Word
  bu : BitVec 8
  bl : BitVec 8

def State.guard (s : State) : Guard :=
  { intr := s.intr, mem := s.mem, inter := s.inter, active := s.ctl.active, lock1 := s.ctl.lock1, mask := s.mask,
    bu := s.bu, bl := s.bl }

@[simp] theorem State.guard_setIxOf (s : State) (r : Option Ix) (v : Addr) : (s.setIxOf r v).guard = s.guard := by
  cases r <;> rfl

@[simp] theorem State.guard_advance (s : State) : s.advance.guard = s.guard := by
  unfold State.advance
  split <;> rfl

@[simp] theorem State.guard_skipIf (s : State) (c : Bool) : (s.skipIf c).guard = s.guard := by
  cases c
  · exact s.guard_advance
  · rfl

@[simp] theorem State.guard_endAug (h : Half) (s : State) : (s.endAug h).guard = s.guard := by
  cases h <;> rfl

@[simp] theorem State.guard_autoStart (s : State) (x : ChanId) : (s.autoStart x).guard = s.guard := by
  unfold State.autoStart
  split <;> rfl

theorem guard_indexSkip (r : Option Ix) (y : Addr) (s : State) : (indexSkip r y s).guard = s.guard := by
  unfold indexSkip
  split
  · exact s.guard_setIxOf r 0
  · simp

/-! ### Properties that an instruction keeps -/

/-- A property of a state that depends on its guard and that neither a fault nor a channel event inside an instruction
ends. -/
structure GuardClosed (P : State → Prop) : Prop where
  frame : ∀ {s t}, P s → t.guard = s.guard → P t
  setFault : ∀ {s} n, P s → P (s.setFault n)
  reference : ∀ {s t}, P s → reference s = .ok t → P t

/-- `P` holds while an instruction makes its references, and `Q`, which is weaker, from there to its end. -/
structure InstructionClosed (P Q : State → Prop) : Prop where
  inside : GuardClosed P
  after : GuardClosed Q
  modifyMem : ∀ {s} a f, P s → Gives P (modifyMem a f s)
  weaken : ∀ {s}, P s → Q s
  enter : ∀ {s} c, Q s → Q (s.enter c)
  setBu : ∀ {s} v, Q s → Q (s.setBu v)
  setBl : ∀ {s} v, Q s → Q (s.setBl v)

namespace GuardClosed

variable {P R : State → Prop} {s t : State} (closed : GuardClosed P)
include closed

/-! ### The instruction pointer -/

theorem normalJump {u : State} (hu : P u) (hs : P s) (a : Addr) : P (normalJump a u s) := by
  unfold Machine.normalJump
  split
  · exact closed.setFault 42 hu
  · exact closed.frame hs rfl

theorem advance (hs : P s) : P s.advance := closed.frame hs s.guard_advance

theorem reject (hs : P s) (n : Addr) : P (reject n s) := closed.normalJump (u := s.nextStep) (closed.frame hs rfl) hs n

/-! ### References and operands -/

theorem readMem {a : Addr} {x : Word} (hs : P s) (h : readMem a s = .ok (x, t)) : P t :=
  closed.reference hs (readMem_cases h).1

theorem resolveIn {n : Nat} {b : Desig} {m : Addr} {x : Option Ix × Addr} (hs : P s)
    (h : resolveIn n b m s = .ok (x, t)) : P t := by
  induction n generalizing b m s with
  | zero =>
    cases b with
    | zero | ix r => cases h; exact hs
    | seven => cases h
  | succ n ih =>
    cases b with
    | zero | ix r => cases h; exact hs
    | seven =>
      simp only [Machine.resolveIn] at h
      split at h
      next hx => exact ih (closed.readMem hs hx) h
      next => cases h

theorem effective {b : Desig} {m a : Addr} (hs : P s) (h : effective b m s = .ok (a, t)) : P t := by
  unfold Machine.effective at h
  split at h
  next hr => cases h; exact closed.resolveIn hs hr
  next => cases h

theorem onResolved (hs : P s) (b : Desig) (m : Addr) {f : Option Ix → Addr → State → Res State}
    (hf : ∀ r a v, P v → Gives R (f r a v)) : Gives R (onResolved b m f s) := by
  unfold Machine.onResolved
  split
  next hr => exact hf _ _ _ (closed.resolveIn hs hr)
  next => exact gives_error _

theorem onEffective (hs : P s) (b : Desig) (m : Addr) {f : Addr → State → Res State}
    (hf : ∀ a v, P v → Gives R (f a v)) : Gives R (onEffective b m f s) := by
  unfold Machine.onEffective
  split
  next ha => exact hf _ _ (closed.effective hs ha)
  next => exact gives_error _

theorem onOperand (hs : P s) (b : Desig) (m : Addr) {f : Word → State → State} (hf : ∀ x v, P v → P (f x v)) :
    Gives P (onOperand b m f s) := by
  unfold Machine.onOperand operand
  split
  next x v hx =>
    split at hx
    next ha => exact gives_ok.mpr (hf x v (closed.readMem (closed.effective hs ha) hx))
    next => cases hx
  next => exact gives_error _

theorem onShift (hs : P s) (b : Desig) (k : Addr) {f : Nat → State → State} (hf : ∀ n v, (f n v).guard = v.guard) :
    Gives P (onShift b k f s) := by
  refine closed.onEffective hs b k fun n v hv => gives_ok.mpr (closed.frame ?_ (hf _ _))
  unfold State.shiftFault
  split
  · exact closed.setFault 1 hv
  · exact hv

/-! ### Arithmetic -/

theorem sum (hs : P s) (x y : Word) : P (sum x y s).2 := by
  unfold Machine.sum
  split
  · exact closed.frame (closed.setFault 3 hs) rfl
  · exact hs

theorem difference (hs : P s) (x y : Word) : P (difference x y s).2 := by
  unfold Machine.difference
  split
  · exact closed.frame (closed.setFault 3 hs) rfl
  · exact hs

theorem multiply (hs : P s) (x y : Word) : P (multiply x y s).2 := by
  unfold Machine.multiply
  dsimp only
  split
  · exact closed.frame hs rfl
  · exact hs

theorem divide (hs : P s) (d : Word) : P (divide d s) := by
  have fault : P s.divideFault := closed.frame (closed.setFault 2 hs) rfl
  unfold Machine.divide
  dsimp only
  split_ifs
  · exact fault
  · exact fault
  all_goals exact closed.frame hs rfl

theorem floatingPoint (hs : P s) (k : FpKind) (x : Word) : P (floatingPoint k x s) := by
  have faultIf {u : State} (n : Nat) (c : Prop) [Decidable c] (hu : P u) : P (if c then u.setFault n else u) := by
    split
    · exact closed.setFault n hu
    · exact hu
  exact faultIf 2 _ (faultIf 5 _ (faultIf 4 _ (closed.frame hs rfl)))

/-! ### Searches -/

theorem searchLoop {hit : Word → Bool} {r : Ix} {m : Addr} {n : Nat} {found : Bool} (hs : P s)
    (h : searchLoop hit r m n s = .ok (found, t)) : P t := by
  induction n generalizing s with
  | zero => cases h; exact hs
  | succ n ih =>
    simp only [Machine.searchLoop] at h
    split at h
    next x u hx =>
      have counted : P (s.setIx r (ocsub (s.ix r) 1)) := closed.frame hs rfl
      have hu : P u := closed.readMem counted hx
      split at h
      · cases h; exact hu
      · exact ih hu h
    next => cases h

theorem search (hs : P s) (hit : Word → State → Bool) (b : Desig) (m : Addr) : Gives P (search hit b m s) := by
  refine closed.onResolved hs b m fun r a v hv => ?_
  cases r with
  | none =>
    dsimp only
    split
    next hx => exact gives_ok.mpr (closed.frame (closed.readMem hv hx) (State.guard_skipIf _ _))
    next => exact gives_error _
  | some i =>
    dsimp only
    split
    · exact gives_error _
    · split
      next hu => exact gives_ok.mpr (closed.frame (closed.searchLoop hv hu) (State.guard_skipIf _ _))
      next => exact gives_error _

/-! ### AUG -/

theorem augAddress (hs : P s) (v : Desig) : Gives P (augAddress v s) := by
  cases v with
  | zero => exact gives_ok.mpr hs
  | ix r =>
    simp only [Machine.augAddress]
    split
    · exact gives_error _
    · exact gives_ok.mpr (closed.frame hs rfl)
  | seven =>
    simp only [Machine.augAddress]
    split
    · exact gives_error _
    · split
      next hx =>
        split
        · exact gives_ok.mpr (closed.frame (closed.readMem hs hx) rfl)
        · exact gives_error _
      next => exact gives_error _

theorem augment (hs : P s) (v : Desig) (t2 t1 t0 : Bool) : Gives P (augment v t2 t1 t0 s) := by
  unfold Machine.augment
  split
  · exact gives_error _
  · split
    · split
      next u hu => exact gives_ok.mpr (closed.advance (closed.frame (closed.augAddress hs v u hu) rfl))
      next => exact gives_error _
    · exact gives_error _

/-! ### Channels -/

theorem channelHalt (hs : P s) (x : ChanId) : P (s.channelHalt x) :=
  closed.frame (closed.frame (closed.setFault _ hs) rfl) (State.guard_autoStart _ x)

theorem clearWith {x : ChanId} (clears : ∀ {u}, P u → P (u.clearFault (20 + x.index))) (f : Device → Device)
    (hs : P s) : P (s.clearWith f x) := by
  have cleared : P (s.setChan x { s.chan x with conn := none, wc := 0, ca := 0 }) := closed.frame hs rfl
  unfold State.clearWith
  refine closed.frame (clears ?_) rfl
  split
  · exact closed.channelHalt cleared x
  · exact cleared

theorem sendConnect (hs : P s) (x : ChanId) (c : BitVec 12) : P (sendConnect x c s).2 := by
  unfold Machine.sendConnect
  split
  · exact closed.frame hs rfl
  · dsimp only
    split <;> exact closed.frame hs rfl

theorem sendFunction (hs : P s) (x : ChanId) (c : BitVec 12) : P (sendFunction x c s).2 := by
  unfold Machine.sendFunction
  split
  · exact hs
  · split
    · exact closed.setFault _ (closed.frame hs rfl)
    · exact closed.frame hs rfl

theorem afterReply {r : Reply × State} (hr : P r.2) (n : Addr) : P (afterReply n r) := by
  unfold Machine.afterReply
  split
  · exact closed.frame hr rfl
  · exact closed.reject hr n
  · exact closed.reject hr n

/-- CONN and EXTF on an installed channel (R303, R304). -/
theorem ifBusy (hs : P s) (n : Addr) (k : ChanId) {r : Reply × State} (hr : P r.2) :
    P (if (s.chan k).active then Machine.reject n s else Machine.afterReply n r) := by
  split
  · exact closed.reject hs n
  · exact closed.afterReply hr n

theorem startChannel (hs : P s) (x : ChanId) (d : Dir) (m : Addr) : Gives P (startChannel x d m s) := by
  unfold Machine.startChannel
  split
  next hx => exact gives_ok.mpr (closed.frame (closed.readMem hs hx) rfl)
  next => exact gives_error _

end GuardClosed

namespace InstructionClosed

variable {P Q : State → Prop} {s t : State} (closed : InstructionClosed P Q)
include closed

/-! ### Stores and interrupts -/

theorem writePart (hs : P s) {len : Nat} (a : Addr) (lo : Nat) (v : BitVec len) : Gives P (writePart a lo v s) :=
  closed.modifyMem a _ hs

theorem writeMem (hs : P s) (a : Addr) (x : Word) : Gives P (writeMem a x s) := closed.modifyMem a _ hs

theorem returnJump (hs : P s) (a : Addr) : Gives P (returnJump a s) := by
  intro t h
  rcases returnJump_cases h with ⟨-, rfl⟩ | ⟨-, u, hu, rfl⟩
  · exact closed.inside.setFault 42 (closed.inside.advance hs)
  · exact closed.inside.frame (closed.writePart hs a 24 _ u hu) rfl

theorem replace (hs : P s) (b : Desig) (m : Addr) {f : Word → State → Word × State}
    (hf : ∀ x v, P v → P (f x v).2) : Gives P (replace b m f s) := by
  refine closed.inside.onEffective hs b m fun a v hv => ?_
  split
  next x u hx =>
    have put : P (putA (f x u)) := closed.inside.frame (hf x u (closed.inside.readMem hv hx)) rfl
    exact closed.writeMem put a _
  next => exact gives_error _

theorem takeInterrupt (hs : Q s) (c : Category) : Gives Q (takeInterrupt c s) := by
  intro t h
  obtain ⟨u, hu, rfl⟩ := takeInterrupt_cases h
  exact closed.enter c (closed.after.reference hs hu)

/-! ### The end of an instruction -/

theorem complete (hs : Q s) {h : Half} (e : complete h s = .ok t) : Q t := by
  obtain ⟨u, hu, ended⟩ := complete_cases e
  have sampled : Q u := closed.after.reference (closed.after.frame hs (s.guard_endAug h)) hu
  rcases ended with ⟨-, rfl⟩ | ⟨-, ht⟩
  · exact sampled
  · exact closed.takeInterrupt sampled .one t ht

theorem finish {r : Res State} (h : finish s r = .next t) (hr : Gives Q r) : Q t := by
  obtain ⟨u, hu, -, ht⟩ := finish_cases h
  exact closed.complete (hr u hu) ht

theorem finishSeq {r : Res State} (h : finishSeq s r = .next t) (hr : Gives Q r) : Q t := by
  obtain ⟨u, hu, -, ht⟩ := finishSeq_cases h
  exact closed.complete (closed.after.advance (hr u hu)) ht

theorem finishJump {taken : Bool} {r : Res State} (h : finishJump s taken r = .next t) (hr : Gives Q r) : Q t := by
  obtain ⟨u, hu, ⟨-, ht⟩ | ⟨-, -, ht⟩⟩ := finishJump_cases h
  · exact closed.complete (hr u hu) ht
  · have landed : Q u.exitLand := closed.after.frame (hr u hu) rfl
    exact closed.complete landed ht

theorem gives {r : Res State} (hr : Gives P r) : Gives Q r := fun t ht => closed.weaken (hr t ht)

theorem finish_inside {r : Res State} (h : Machine.finish s r = .next t) (hr : Gives P r) : Q t :=
  closed.finish h (closed.gives hr)

theorem finishSeq_inside {r : Res State} (h : Machine.finishSeq s r = .next t) (hr : Gives P r) : Q t :=
  closed.finishSeq h (closed.gives hr)

theorem finishJump_inside {taken : Bool} {u : State}
    (h : Machine.finishJump s taken (.ok u) = .next t) (hu : P u) : Q t :=
  closed.finishJump h (gives_ok.mpr (closed.weaken hu))

/-! ### Instructions with a shape of their own -/

section
variable (hs : P s)
include hs

theorem condJump {c : Bool} {m : Addr} (h : condJump c m s = .next t) : Q t := by
  refine closed.finishJump_inside h ?_
  split
  · exact closed.inside.normalJump (closed.inside.advance hs) hs m
  · exact closed.inside.advance hs

theorem condReturn {c : Bool} {m : Addr} (h : condReturn c m s = .next t) : Q t := by
  refine closed.finish_inside h ?_
  split
  · exact closed.returnJump hs m
  · exact gives_ok.mpr (closed.inside.advance hs)

theorem execIjp {b : Desig} {m : Addr} (h : execIjp b m s = .next t) : Q t := by
  unfold Machine.execIjp at h
  split at h
  next u hr => exact closed.finishJump_inside h (closed.inside.advance (closed.inside.resolveIn hs hr))
  next r a u hr =>
    have hu : P u := closed.inside.resolveIn hs hr
    split at h
    · cases h
    · split at h
      · exact closed.finishJump_inside h (closed.inside.advance hu)
      · have counted : P (u.setIx r (ocsub (u.ix r) 1)) := closed.inside.frame hu rfl
        exact closed.finishJump_inside h (closed.inside.normalJump (closed.inside.advance counted) counted a)
  next => cases h
  next => cases h

theorem stopElse {j : SwCond} {o : Out} (ho : o = .next t → Q t)
    (h : (if s.stopCond j then .next s.stop else o) = .next t) : Q t := by
  split at h
  · cases h
    exact closed.weaken (closed.inside.frame hs rfl)
  · exact ho h

theorem floating {k : FpKind} {b : Desig} {m : Addr} (h : floating k b m s = .next t) : Q t := by
  unfold Machine.floating at h
  split at h
  · exact closed.finishSeq_inside h
      (closed.inside.onOperand hs b m fun x v hv => closed.inside.floatingPoint hv k _)
  · exact closed.finish h (closed.takeInterrupt (closed.weaken hs) _)

theorem execSsh {b : Desig} {m : Addr} (h : execSsh b m s = .next t) : Q t := by
  refine closed.finish_inside h (closed.inside.onEffective hs b m fun a v hv => ?_)
  split
  next x u hx =>
    split
    next w hw =>
      exact gives_ok.mpr (closed.inside.frame (closed.writeMem (closed.inside.readMem hv hx) a _ w hw)
        (w.guard_skipIf _))
    next => exact gives_error _
  next => exact gives_error _

theorem execLdc {b p : Desig} {m : Addr} (h : execLdc b p m s = .next t) : Q t := by
  refine closed.finish_inside h (closed.inside.onEffective hs b m fun a v hv => ?_)
  split
  · split
    next hx => exact gives_ok.mpr (closed.inside.frame (closed.inside.readMem hv hx) rfl)
    next => exact gives_error _
  · exact gives_error _

theorem execStc {b p : Desig} {m : Addr} (h : execStc b p m s = .next t) : Q t := by
  refine closed.finish_inside h (closed.inside.onEffective hs b m fun a v hv => ?_)
  split
  · split
    next x u hx =>
      split
      next w hw =>
        exact gives_ok.mpr (closed.inside.frame (closed.writeMem (closed.inside.readMem hv hx) a _ w hw) rfl)
      next => exact gives_error _
    next => exact gives_error _
  · exact gives_error _

theorem execSen {y : Addr} (h : execSen y s = .next t) : Q t := by
  unfold Machine.execSen at h
  split at h
  · exact closed.finishSeq_inside h (gives_ok.mpr hs)
  · split at h
    next c hc => exact closed.finish_inside h (gives_ok.mpr (closed.inside.frame hs (s.guard_skipIf c)))
    next => cases h

theorem execAug {v : Desig} {t2 t1 t0 : Bool} (h : execAug v t2 t1 t0 s = .next t) : Q t := by
  unfold Machine.execAug at h
  split at h
  · exact closed.finishSeq_inside h (gives_ok.mpr hs)
  · exact closed.weaken (closed.inside.augment hs v t2 t1 t0 t (outcome_eq_next h))

/-- EUB and ELB: the illegal one is an interrupt, the legal one a write of its register (R288, R289). -/
theorem boundsElse {u : State} (hu : Q u)
    (h : (if s.boundsLocked then Machine.finish s (Machine.takeInterrupt .three s)
      else Machine.finishSeq s (.ok u)) = .next t) : Q t := by
  split at h
  · exact closed.finish h (closed.takeInterrupt (closed.weaken hs) _)
  · exact closed.finishSeq h (gives_ok.mpr hu)

/-! ### The instructions -/

/-- Every instruction, given what INF and the clear of CLCH, which clear Interrupt bits, do. -/
theorem exec (i : Instr) (functions : ∀ y u, i = .inf y → internalFunction y.toNat s = some u → Q u)
    (clears : ∀ x k, i = .clch x → channelOf x s = .ok k → ∀ {u}, Q u → Q (u.clearFault (20 + k.index)))
    (h : exec i s = .next t) : Q t := by
  have inside := closed.inside
  cases i with
  | iaq | cis | cpr =>
    exact closed.finishSeq_inside (s := s) (r := .ok _) h (gives_ok.mpr (inside.frame hs rfl))
  | lda b m | ldq b m | lac b m | lqc b m | sst b m | scl b m | scm b m | ssu b m | ldl b m =>
    exact closed.finishSeq_inside h (inside.onOperand hs b m fun x v hv => inside.frame hv rfl)
  | add b m | adl b m =>
    exact closed.finishSeq_inside h
      (inside.onOperand hs b m fun x v hv => inside.frame (inside.sum hv _ _) rfl)
  | sub b m | sbl b m =>
    exact closed.finishSeq_inside h
      (inside.onOperand hs b m fun x v hv => inside.frame (inside.difference hv _ _) rfl)
  | mui b m =>
    exact closed.finishSeq_inside h
      (inside.onOperand hs b m fun x v hv => inside.frame (inside.multiply hv _ _) rfl)
  | dvi b m => exact closed.finishSeq_inside h (inside.onOperand hs b m fun x v hv => inside.divide hv _)
  | sta b m | stq b m | stl b m =>
    exact closed.finishSeq_inside h (inside.onEffective hs b m fun a v hv => closed.writeMem hv a _)
  | sau b m | sal b m =>
    exact closed.finishSeq_inside h (inside.onEffective hs b m fun a v hv => closed.writePart hv a _ _)
  | siu b m | sil b m =>
    exact closed.finishSeq_inside h (inside.onResolved hs b m fun r a v hv => closed.writePart hv a _ _)
  | liu b m | lil b m =>
    refine closed.finishSeq_inside h (inside.onResolved hs b m fun r a v hv => ?_)
    split
    next hx => exact gives_ok.mpr (inside.frame (inside.readMem hv hx) (State.guard_setIxOf _ _ _))
    next => exact gives_error _
  | enq b y | ena b y =>
    exact closed.finishSeq_inside h (inside.onEffective hs b y fun k v hv => gives_ok.mpr (inside.frame hv rfl))
  | ina b y =>
    exact closed.finishSeq_inside h
      (inside.onEffective hs b y fun k v hv => gives_ok.mpr (inside.frame (inside.sum hv _ _) rfl))
  | eni b y | ini b y =>
    exact closed.finishSeq_inside h
      (inside.onResolved hs b y fun r k v hv => gives_ok.mpr (inside.frame hv (v.guard_setIxOf r _)))
  | ati b =>
    refine closed.finishSeq_inside h ?_
    cases b with
    | ix r => exact gives_ok.mpr (inside.frame hs rfl)
    | zero | seven => exact gives_error _
  | isk b y =>
    exact closed.finish_inside h
      (inside.onResolved hs b y fun r k v hv => gives_ok.mpr (inside.frame hv (guard_indexSkip r k v)))
  | ars b k | als b k | qrs b k | qls b k | lrs b k | lls b k =>
    exact closed.finishSeq_inside h (inside.onShift hs b k fun n v => rfl)
  | sca b k | scq b k =>
    exact closed.finishSeq_inside h
      (inside.onResolved hs b k fun r n v hv => gives_ok.mpr (inside.frame hv (State.guard_setIxOf _ r _)))
  | rad b m | rao b m => exact closed.finishSeq_inside h (closed.replace hs b m fun x v hv => inside.sum hv _ _)
  | rsb b m | rso b m =>
    exact closed.finishSeq_inside h (closed.replace hs b m fun x v hv => inside.difference hv _ _)
  | ssk b m =>
    exact closed.finish_inside h (inside.onOperand hs b m fun x v hv => inside.frame hv (v.guard_skipIf _))
  | ssh b m => exact closed.execSsh hs h
  | eqs b m | ths b m | meq b m | mth b m => exact closed.finish_inside h (inside.search hs _ b m)
  | ajp j m | qjp j m | slj j m => exact closed.condJump hs h
  | arj j m | qrj j m | rtj j m => exact closed.condReturn hs h
  | ijp b m => exact closed.execIjp hs h
  | sls j m => exact closed.stopElse hs (closed.condJump hs) h
  | srj j m => exact closed.stopElse hs (closed.condReturn hs) h
  | conn n x c =>
    refine closed.finish_inside h ?_
    split
    · exact gives_ok.mpr (inside.ifBusy hs n _ (inside.sendConnect hs _ c))
    · exact gives_error _
  | extf n x c =>
    refine closed.finish_inside h ?_
    split
    · exact gives_ok.mpr (inside.ifBusy hs n _ (inside.sendFunction hs _ c))
    · exact gives_error _
  | begr n x m | begw n x m =>
    refine closed.finish_inside h ?_
    split
    · split
      · exact gives_ok.mpr (inside.reject hs n)
      · exact inside.startChannel hs _ _ m
    · exact gives_error _
  | copy x | ccwd x =>
    refine closed.finish_inside h ?_
    split
    · exact gives_ok.mpr (inside.frame hs rfl)
    · exact gives_error _
  | clch x =>
    refine closed.finish h ?_
    split
    next k hk =>
      exact gives_ok.mpr
        (closed.after.frame (closed.after.clearWith (clears x k rfl hk) Device.clear (closed.weaken hs)) rfl)
    next => exact gives_error _
  | sen y => exact closed.execSen hs h
  | inf y =>
    refine closed.finishSeq h ?_
    split
    next u hu => exact gives_ok.mpr (functions y u rfl hu)
    next => exact gives_error _
  | aug v t2 t1 t0 => exact closed.execAug hs h
  | eub y => exact closed.boundsElse hs (closed.setBu y (closed.weaken hs)) h
  | elb y => exact closed.boundsElse hs (closed.setBl y (closed.weaken hs)) h
  | ldc b p m => exact closed.execLdc hs h
  | stc b p m => exact closed.execStc hs h
  | fad b m | fsb b m | fmu b m | fdv b m => exact closed.floating hs h

end

end InstructionClosed

end Sys2Proof.Machine
end

section
/-! PROOFS. Bounds checking protects storage from every instruction (spec/60_exceptions.md R393,
spec/20_memory.md R67, R73). -/

namespace Sys2Proof.Machine

/-- Storage is canonical, no channel event is to come, and the word at `a` is `w`. -/
structure Retains (a : Addr) (w : Word) (s : State) : Prop where
  canonical : s.mem.wf = true
  quiet : s.inter = []
  word : s.mem.readWord a = w

/-- The word is retained, and the bounds forbid a store to it. -/
structure Shields (a : Addr) (w : Word) (s : State) : Prop extends Retains a w s where
  outside : s.outOfBounds a = true

theorem State.outOfBounds_of_guard {s t : State} (same : t.guard = s.guard) (a : Addr) :
    t.outOfBounds a = s.outOfBounds a := by
  simp only [State.guard, Guard.mk.injEq] at same
  obtain ⟨-, -, -, active, lock1, mask, bu, bl⟩ := same
  simp only [State.outOfBounds, State.boundsInEffect, State.inBounds, active, lock1, mask, bu, bl]

section
variable {a : Addr} {w : Word} {s t : State}

theorem Retains.of_guard (hs : Retains a w s) (same : t.guard = s.guard) : Retains a w t := by
  simp only [State.guard, Guard.mk.injEq] at same
  obtain ⟨-, mem, inter, -⟩ := same
  exact ⟨mem ▸ hs.canonical, inter ▸ hs.quiet, mem ▸ hs.word⟩

theorem Retains.reference (hs : Retains a w s) (h : reference s = .ok t) : t = s := by
  rw [reference_ready hs.quiet] at h
  cases h
  rfl

/-- A store elsewhere. -/
theorem Retains.writeWord (hs : Retains a w s) {c : Addr} (elsewhere : a ≠ c) (x : Word) :
    Retains a w (s.setMem (s.mem.writeWord c x)) where
  canonical := s.mem.wf_writeWord c x hs.canonical
  quiet := hs.quiet
  word := (s.mem.readWord_writeWord_ne c a x hs.canonical elsewhere).trans hs.word

theorem retains_guardClosed : GuardClosed (Retains a w) where
  frame := .of_guard
  setFault _ hs := ⟨hs.canonical, hs.quiet, hs.word⟩
  reference hs h := hs.reference h ▸ hs

theorem shields_guardClosed : GuardClosed (Shields a w) where
  frame hs same := ⟨hs.toRetains.of_guard same, (State.outOfBounds_of_guard same a).trans hs.outside⟩
  setFault _ hs := ⟨⟨hs.canonical, hs.quiet, hs.word⟩, hs.outside⟩
  reference hs h := hs.toRetains.reference h ▸ hs

/-- A store that is performed is in bounds, so it is made elsewhere. -/
theorem Shields.modifyMem (hs : Shields a w s) (c : Addr) (f : Word → Word) :
    Gives (Shields a w) (modifyMem c f s) := by
  intro t h
  rcases modifyMem_cases h with ⟨-, rfl⟩ | ⟨inside, u, hu, -, rfl⟩
  · exact shields_guardClosed.setFault 42 hs
  · obtain rfl := hs.toRetains.reference hu
    have elsewhere : a ≠ c := by
      rintro rfl
      simp [hs.outside] at inside
    exact ⟨hs.toRetains.writeWord elsewhere _, hs.outside⟩

theorem fixedLocation_mem (k : FpKind) : fixedLocation k ∈ fixedLocations := by
  cases k <;> decide

/-- An entry stores to its fixed location only. -/
theorem Retains.enter (free : a ∉ fixedLocations) (hs : Retains a w s) (c : Category) : Retains a w (s.enter c) := by
  have returns {u : State} {fixed : Addr} (listed : fixed ∈ fixedLocations) (ret : Addr) (hu : Retains a w u) :
      Retains a w (u.hardwareReturnJump fixed ret) :=
    (hu.writeWord (fun same => free (same ▸ listed)) _).of_guard rfl
  cases c with
  | one => exact returns (by decide) _ ⟨hs.canonical, hs.quiet, hs.word⟩
  | two k => exact returns (fixedLocation_mem k) _ ((hs.of_guard s.guard_advance).of_guard rfl)
  | three => exact returns (by decide) _ hs

theorem shields_instructionClosed (free : a ∉ fixedLocations) : InstructionClosed (Shields a w) (Retains a w) where
  inside := shields_guardClosed
  after := retains_guardClosed
  modifyMem c f hs := hs.modifyMem c f
  weaken hs := hs.toRetains
  enter c hs := hs.enter free c
  setBu _ hs := ⟨hs.canonical, hs.quiet, hs.word⟩
  setBl _ hs := ⟨hs.canonical, hs.quiet, hs.word⟩

/-- INF writes flip-flops only. -/
theorem internalFunction_storage {y : Nat} (h : internalFunction y s = some t) : t.mem = s.mem ∧ t.inter = s.inter := by
  unfold internalFunction at h
  split at h <;> cases h <;> exact ⟨rfl, rfl⟩

end

/-- Settles O18: while an instruction makes its references the bounds keep its stores away from the word, and after them
only an entry stores, at a fixed location. -/
theorem boundsProtectStorage : Obligations.BoundsProtectStorage := by
  intro i s t a canonical quiet outside free run
  have hs : Shields a (s.mem.readWord a) s := ⟨⟨canonical, quiet, rfl⟩, outside⟩
  refine ((shields_instructionClosed free).exec hs i (fun y u _ function => ?inf) (fun x k _ _ u hu => ?clch) run).word
  case inf =>
    obtain ⟨mem, inter⟩ := internalFunction_storage function
    exact ⟨mem ▸ canonical, inter ▸ quiet, mem ▸ rfl⟩
  case clch => exact ⟨hu.canonical, hu.quiet, hu.word⟩

end Sys2Proof.Machine
end

section
/-! PROOFS. The flip-flops of the Interrupt register are sticky (spec/60_exceptions.md R373, R398). -/

namespace Sys2Proof.Machine

section
variable {s t : State}

/-! ### Channel events and the Interrupt register -/

/-- The channel's end is the only Interrupt flip-flop that its events write (spec/46_input_output.md R307, R315). -/
def WritesEndOnly (x : ChanId) (s t : State) : Prop := t.intr = s.intr ∨ t.intr = s.intr ||| bitWord (10 + x.index)

theorem State.autoStart_intr (s : State) (x : ChanId) : (s.autoStart x).intr = s.intr :=
  congrArg Guard.intr (s.guard_autoStart x)

theorem State.channelHalt_intr (s : State) (x : ChanId) : (s.channelHalt x).intr = s.intr ||| bitWord (10 + x.index) :=
  State.autoStart_intr _ x

theorem writesEndOnly_channelHalt (x : ChanId) {u : State} (same : u.intr = s.intr) :
    WritesEndOnly x s (u.channelHalt x) :=
  .inr (by rw [State.channelHalt_intr, same])

theorem channelStore_writesEndOnly (x : ChanId) (v : Word) {u : State} (same : u.intr = s.intr) :
    Gives (WritesEndOnly x s) (u.channelStore x v) := by
  unfold State.channelStore
  split
  · exact gives_ok.mpr (.inl same)
  · exact gives_error _

theorem supply_writesEndOnly (x : ChanId) (f : Device → Supply × Device) :
    Gives (WritesEndOnly x s) (s.supply x f) := by
  unfold State.supply
  split
  · split
    · exact gives_ok.mpr (writesEndOnly_channelHalt x (u := s) rfl)
    · split
      · exact gives_ok.mpr (.inl rfl)
      · exact channelStore_writesEndOnly x _ rfl
      · exact gives_ok.mpr (writesEndOnly_channelHalt x rfl)
  · exact gives_ok.mpr (.inl rfl)

theorem pressKey_writesEndOnly (x : ChanId) (n : BitVec 3) (code : BitVec 6) :
    Gives (WritesEndOnly x s) (s.pressKey x n code) := by
  unfold State.pressKey
  dsimp only
  split
  · split
    · exact gives_ok.mpr (writesEndOnly_channelHalt x rfl)
    · exact channelStore_writesEndOnly x _ rfl
  · exact gives_ok.mpr (.inl rfl)

theorem installedEvent_writesEndOnly (e : ChannelEvent) : Gives (WritesEndOnly e.chan s) (installedEvent e s) := by
  have stays (x : ChanId) : Gives (WritesEndOnly x s) (.ok s) := gives_ok.mpr (.inl rfl)
  have halts (x : ChanId) : Gives (WritesEndOnly x s) (.ok (s.channelHalt x)) :=
    gives_ok.mpr (writesEndOnly_channelHalt x rfl)
  cases e with
  | deliver x b1 b2 b3 b4 =>
    simp only [installedEvent]
    split_ifs
    · exact halts x
    · exact channelStore_writesEndOnly x _ rfl
    · exact stays x
    · exact stays x
  | endOfRecord x =>
    simp only [installedEvent]
    split
    · exact halts x
    · exact stays x
  | endOfRecordSwitch x =>
    simp only [installedEvent]
    split
    · exact stays x
    · rcases s.endOfRecordAt_cases x with h | ⟨-, h⟩ <;> rw [h]
      · exact stays x
      · exact halts x
  | take x =>
    simp only [installedEvent]
    split
    · split
      · exact halts x
      · split
        · exact stays x
        · split
          · exact stays x
          · unfold State.channelSend
            dsimp only
            split
            · exact gives_ok.mpr (.inl rfl)
            · exact gives_error _
    · exact stays x
  | key x n code =>
    simp only [installedEvent]
    split
    · exact pressKey_writesEndOnly x n code
    · exact stays x
  | frame x f => exact supply_writesEndOnly x _
  | check x f => exact supply_writesEndOnly x _
  | unload x => exact supply_writesEndOnly x _
  | mechanism x n d =>
    simp only [installedEvent]
    split
    · rcases s.equipmentEvent_cases x n none d with h | ⟨-, h⟩ <;> rw [h]
      · exact gives_ok.mpr (.inl rfl)
      · exact gives_ok.mpr (writesEndOnly_channelHalt x rfl)
    · exact stays x

/-! ### A flip-flop that is set -/

/-- Flip-flop `n` of the Interrupt register is set. -/
def FaultSet (n : Nat) (s : State) : Prop := s.intr.getLsbD n = true

variable {n : Nat}

theorem FaultSet.or (hs : FaultSet n s) {v : Word} (h : t.intr = s.intr ||| v) : FaultSet n t := by
  rw [FaultSet, h, BitVec.getLsbD_or, show s.intr.getLsbD n = true from hs, Bool.true_or]

theorem FaultSet.channelEvent (hs : FaultSet n s) (e : ChannelEvent) : Gives (FaultSet n) (channelEvent e s) := by
  intro t h
  unfold Machine.channelEvent at h
  split at h
  · rcases installedEvent_writesEndOnly e t h with same | ended
    · exact hs.or (v := 0) (by simpa using same)
    · exact hs.or ended
  · cases h
    exact hs

theorem FaultSet.channelEvents (hs : FaultSet n s) (es : List ChannelEvent) :
    Gives (FaultSet n) (channelEvents es s) := by
  induction es generalizing s with
  | nil => exact gives_ok.mpr hs
  | cons e es ih =>
    unfold Machine.channelEvents
    split
    next t ht => exact ih (hs.channelEvent e t ht)
    next => exact gives_error _

theorem faultSet_guardClosed : GuardClosed (FaultSet n) where
  frame hs same := (congrArg (fun g : Guard => g.intr.getLsbD n) same).trans hs
  setFault _ hs := hs.or rfl
  reference {s _} hs h := by
    rcases reference_cases h with ⟨-, rfl⟩ | ⟨es, rest, -, hes⟩
    · exact hs
    · exact FaultSet.channelEvents (s := s.setInter rest) hs es _ hes

theorem faultSet_instructionClosed : InstructionClosed (FaultSet n) (FaultSet n) where
  inside := faultSet_guardClosed
  after := faultSet_guardClosed
  modifyMem a f hs := by
    intro t h
    rcases modifyMem_cases h with ⟨-, rfl⟩ | ⟨-, u, hu, -, rfl⟩
    · exact hs.or rfl
    · have referred : FaultSet n u := faultSet_guardClosed.reference hs hu
      exact referred
  weaken := id
  enter c hs := by
    cases c with
    | one | three => exact hs
    | two k => exact faultSet_guardClosed.advance hs
  setBu _ := id
  setBl _ := id

/-- The clear of another bit. -/
theorem FaultSet.clearFault (hs : FaultSet n s) {k : Nat} (other : n ≠ k) (inWord : k < 48) :
    FaultSet n (s.clearFault k) := by
  have holds : s.intr.getLsbD n = true := hs
  have hn : n < 48 := BitVec.lt_of_getLsbD holds
  show (s.intr &&& ~~~(bitWord k)).getLsbD n = true
  rw [BitVec.getLsbD_and, BitVec.getLsbD_not, getLsbD_bitWord k n inWord, holds]
  simp [hn, other]

end

theorem ChanId.index_of_ofDigit {y : BitVec 3} {x : ChanId} (h : ChanId.ofDigit y = some x) : x.index = y.toNat := by
  unfold ChanId.ofDigit at h
  split at h <;> cases h
  all_goals next number => exact number.symm

/-- The channel of a digit is the one with its number. -/
theorem channelOf_index {y : BitVec 3} {s : State} {x : ChanId} (h : channelOf y s = .ok x) : x.index = y.toNat := by
  unfold channelOf at h
  split at h
  · cases h
  next digit =>
    split at h <;> cases h
    exact ChanId.index_of_ofDigit digit

/-- Settles O17: the writes of an instruction that is not INF set bits, but for the one that CLCH clears. -/
theorem interruptBitsSticky : Obligations.InterruptBitsSticky := by
  intro i s t n run notInf notClch hs
  refine faultSet_instructionClosed.exec hs i (fun y u inf _ => absurd inf (notInf y))
    (fun x k clch channel u hu => ?_) run
  have other := notClch x clch
  rw [← channelOf_index channel] at other
  have index := k.index_lt
  exact hu.clearFault other (by omega)

end Sys2Proof.Machine
end

section
/-! PROOFS. Interrupt exit points: a taken normal jump lands in the half of the Exit flip-flop, all else is refused
(spec/60_exceptions.md R379, R381). -/

namespace Sys2Proof.Machine

/-! ### Jumps at an exit point -/

section
variable {s : State} (exit : s.atExit = true)
include exit

theorem State.half_of_atExit : s.half = .upper := by
  simp only [State.atExit, Bool.and_eq_true, decide_eq_true_eq] at exit
  exact exit.2

theorem condJump_exit_outOfBounds {m : Addr} (out : s.outOfBounds m = true) (c : Bool) :
    condJump c m s = .refused .exitNotJump := by
  rw [condJump, out, Bool.not_true, Bool.and_false]
  exact finishJump_untaken exit

theorem condJump_exit_untaken (m : Addr) : condJump false m s = .refused .exitNotJump :=
  finishJump_untaken exit

variable (quiet : s.inter = [])
include quiet

theorem finishJump_exit_goto {t : State} {m : Addr} (same : t.inter = s.inter) :
    finishJump s true (.ok (t.goto m .upper)) = .next (s.completed (t.goto m .upper).exitLand) :=
  finishJump_lands exit (same.trans quiet)

theorem condJump_exit_taken {m : Addr} (inside : s.outOfBounds m = false) :
    condJump true m s = .next (s.completed (s.goto m .upper).exitLand) := by
  rw [condJump, if_pos rfl, normalJump_inBounds inside, inside]
  exact finishJump_exit_goto exit quiet rfl

end

section
variable {s : State} (exit : s.atExit = true) {b : Desig} {m a : Addr}
include exit

theorem exec_ijp_exit_noRegister (at_a : Resolves b m s none a) : exec (.ijp b m) s = .refused .exitNotJump := by
  rw [Resolves] at at_a
  show execIjp b m s = _
  simp only [execIjp, at_a]
  exact finishJump_untaken exit

variable {r : Ix} (at_a : Resolves b m s (some r) a)
include at_a

theorem exec_ijp_exit_zero (zero : s.ix r = 0) : exec (.ijp b m) s = .refused .exitNotJump := by
  have counts : s.ix r ≠ BitVec.allOnes 15 := by
    rw [zero]
    decide
  rw [exec_ijp_register at_a, if_neg counts, if_pos zero]
  exact finishJump_untaken exit

variable (nonzero : s.ix r ≠ 0) (counts : s.ix r ≠ BitVec.allOnes 15)
include nonzero counts

theorem exec_ijp_exit_outOfBounds (out : s.outOfBounds a = true) : exec (.ijp b m) s = .refused .exitNotJump := by
  rw [exec_ijp_register at_a, if_neg counts, if_neg nonzero, out]
  exact finishJump_untaken exit

theorem exec_ijp_exit_counts (quiet : s.inter = []) (inside : s.outOfBounds a = false) :
    exec (.ijp b m) s = .next (s.completed ((s.setIx r (s.ix r - 1)).goto a .upper).exitLand) := by
  rw [exec_ijp_register at_a, if_neg counts, if_neg nonzero, ocsub_one nonzero, inside,
    normalJump_inBounds (s := s.setIx r _) inside]
  exact finishJump_exit_goto exit quiet rfl

end

/-! ### The other instructions at an exit point -/

/-- The same state with no exit in progress. -/
def State.exitOver (s : State) : State := s.setCtl { s.ctl with exiting := false }

/-- The instruction does not go on at the exit point, and is refused by name there where it goes on elsewhere (log 19). -/
structure RefusedAtExit (s : State) (i : Instr) : Prop where
  stays : ∀ t, exec i s ≠ .next t
  refused : s.inter = [] → ∀ t, exec i s.exitOver = .next t → exec i s = .refused .exitNotJump

section
variable {s : State} {i : Instr} (exit : s.atExit = true)
include exit

theorem RefusedAtExit.of_finish {r r' : Res State} (here : exec i s = finish s r)
    (later : exec i s.exitOver = finish s.exitOver r') (go : s.inter = [] → Goes r' → Goes r) : RefusedAtExit s i where
  stays t h := by
    obtain ⟨-, -, away, -⟩ := finish_cases (here.symm.trans h)
    simp [exit] at away
  refused quiet t h := here.trans (finish_exit exit (go quiet (finish_goes (later.symm.trans h))))

theorem RefusedAtExit.of_finishSeq {r r' : Res State} (here : exec i s = finishSeq s r)
    (later : exec i s.exitOver = finishSeq s.exitOver r') (go : s.inter = [] → Goes r' → Goes r) :
    RefusedAtExit s i where
  stays t h := by
    obtain ⟨-, -, away, -⟩ := finishSeq_cases (here.symm.trans h)
    simp [exit] at away
  refused quiet t h := here.trans (finishSeq_exit exit (go quiet (finishSeq_goes (later.symm.trans h))))

omit exit in
/-- One that is refused in both states, or at the exit point in any case. -/
theorem RefusedAtExit.of_refused {e : Refusal} (here : exec i s = .refused e)
    (later : e = .exitNotJump ∨ exec i s.exitOver = .refused e) : RefusedAtExit s i where
  stays t h := by cases here.symm.trans h
  refused _ t h := by
    rcases later with rfl | later
    · exact here
    · cases later.symm.trans h

end

theorem goes_bind {α : Type} {r : Res α} {f g : α → Res State} (go : ∀ a, Goes (f a) → Goes (g a))
    (h : Goes (r.bind f)) : Goes (r.bind g) := by
  cases r with
  | error e => exact (not_goes_error e h).elim
  | ok a => exact go a h

/-- A result that leaves the flip-flops of the interrupt system unread and unchanged, and the channel events to come. -/
def IgnoresCtl (f : State → Word × State) : Prop :=
  ∀ u c, f (u.setCtl c) = ((f u).1, (f u).2.setCtl c) ∧ (f u).2.ctl = u.ctl ∧ (f u).2.inter = u.inter

theorem sum_ignoresCtl (x y : Word) : IgnoresCtl (sum x y) := by
  intro u c
  unfold sum
  split <;> exact ⟨rfl, rfl, rfl⟩

theorem difference_ignoresCtl (x y : Word) : IgnoresCtl (difference x y) := by
  intro u c
  unfold difference
  split <;> exact ⟨rfl, rfl, rfl⟩

section
variable {s : State} (quiet : s.inter = [])
include quiet

theorem goes_replace {b : Desig} {m : Addr} {f : Word → State → Word × State}
    (hf : ∀ x, IgnoresCtl (f x)) (h : Goes (replace b m f s.exitOver)) : Goes (replace b m f s) := by
  refine goes_onEffective quiet (fun a => goes_readThen quiet fun x go => ?_) h
  obtain ⟨commutes, ctl, inter⟩ := hf x s { s.ctl with exiting := false }
  rw [commutes] at go
  refine goes_modifyMem_setCtl (s := putA (f x s)) (inter.trans quiet) ?_ go
  rw [← ctl]
  rfl

theorem goes_stored {a : Addr} {w : Word} {f : State → State}
    (h : Goes (match writeMem a w s.exitOver with | .ok u => .ok (f u) | .error r => .error r)) :
    Goes (match writeMem a w s with | .ok u => .ok (f u) | .error r => (.error r : Res State)) := by
  obtain ⟨t, ht⟩ := h
  split at ht
  next hu =>
    obtain ⟨v, hv⟩ := goes_modifyMem_setCtl (s := s) (c := { s.ctl with exiting := false }) (g := fun _ => w) quiet rfl
      ⟨_, hu⟩
    exact ⟨f v, by rw [writeMem, hv]⟩
  next => cases ht

end

theorem goes_character {v : Desig} {s : State} {k k' : Nat → Res State} (go : ∀ n, Goes (k' n) → Goes (k n))
    (h : Goes (match charPos v s with | .ok n => k' n | .error r => .error r)) :
    Goes (match charPos v s with | .ok n => k n | .error r => .error r) := by
  cases position : charPos v s with
  | ok n =>
    rw [position] at h
    exact go n h
  | error e =>
    rw [position] at h
    exact (not_goes_error e h).elim

section
variable {s : State} (exit : s.atExit = true)
include exit

theorem condReturn_refusedAtExit {i : Instr} {c : Bool} {m : Addr} (here : exec i s = condReturn c m s)
    (later : exec i s.exitOver = condReturn c m s.exitOver) : RefusedAtExit s i := by
  refine .of_finish exit here later fun quiet go => ?_
  cases c with
  | false => exact goes_ok _
  | true => exact goes_returnJump quiet go

theorem floating_refusedAtExit {i : Instr} {k : FpKind} {b : Desig} {m : Addr} (here : exec i s = floating k b m s)
    (later : exec i s.exitOver = floating k b m s.exitOver) : RefusedAtExit s i := by
  have option : s.exitOver.cfg = s.cfg := rfl
  unfold floating at here later
  rw [option] at later
  by_cases hasFpo : s.cfg.hasFpo = true
  · exact .of_finishSeq exit (here.trans (if_pos hasFpo)) (later.trans (if_pos hasFpo)) fun quiet =>
      goes_onOperand quiet
  · exact .of_finish exit (here.trans (if_neg hasFpo)) (later.trans (if_neg hasFpo)) fun quiet _ =>
      ⟨_, takeInterrupt_ready _ quiet⟩

theorem boundsElse_refusedAtExit {i : Instr} {f : State → State}
    (run : ∀ u, exec i u = if u.boundsLocked then finish u (takeInterrupt .three u) else finishSeq u (.ok (f u))) :
    RefusedAtExit s i := by
  have lock : s.exitOver.boundsLocked = s.boundsLocked := rfl
  have later := run s.exitOver
  rw [lock] at later
  by_cases locked : s.boundsLocked = true
  · exact .of_finish exit ((run s).trans (if_pos locked)) (later.trans (if_pos locked)) fun quiet _ =>
      ⟨_, takeInterrupt_ready _ quiet⟩
  · exact .of_finishSeq exit ((run s).trans (if_neg locked)) (later.trans (if_neg locked)) fun _ _ => goes_ok _

theorem execSen_refusedAtExit (y : Addr) : RefusedAtExit s (.sen y) := by
  have upper := s.half_of_atExit exit
  have upperOver : s.exitOver.half = .upper := upper
  have condition : senseCondition y.toNat s.exitOver = senseCondition y.toNat s := rfl
  have here : exec (.sen y) s = execSen y s := rfl
  have later : exec (.sen y) s.exitOver = execSen y s.exitOver := rfl
  unfold execSen at here later
  rw [upper] at here
  rw [upperOver, condition] at later
  cases sensed : senseCondition y.toNat s with
  | none =>
    rw [sensed] at here later
    exact .of_refused here (.inr later)
  | some c =>
    rw [sensed] at here later
    exact .of_finish exit here later fun _ _ => goes_ok _

theorem execAug_refusedAtExit (v : Desig) (t2 t1 t0 : Bool) : RefusedAtExit s (.aug v t2 t1 t0) := by
  refine .of_refused (e := .exitNotJump) ?_ (.inl rfl)
  show execAug v t2 t1 t0 s = _
  simp [execAug, s.half_of_atExit exit, augment, exit, Res.outcome]

end

theorem internalFunction_isSome_setCtl (y : Nat) (s : State) (c : IntCtl) :
    (internalFunction y (s.setCtl c)).isSome = (internalFunction y s).isSome := by
  unfold internalFunction
  split <;> rfl

/-- The instructions that may go on at an exit point, and the return jump after its stop. -/
def endsExit : Instr → Bool
  | .ajp _ _ | .qjp _ _ | .slj _ _ | .ijp _ _ | .sls _ _ => true
  | _ => false

theorem exec_refusedAtExit {s : State} (exit : s.atExit = true) (i : Instr) (other : endsExit i = false)
    (passes : ∀ j m, i = .srj j m → s.stopCond j = false) : RefusedAtExit s i := by
  cases i with
  | ajp j m | qjp j m | slj j m | ijp j m | sls j m => cases other
  | iaq | cis | cpr => exact .of_finishSeq exit (r := .ok _) (r' := .ok _) rfl rfl fun _ _ => goes_ok _
  | lda b m | ldq b m | lac b m | lqc b m | sst b m | scl b m | scm b m | ssu b m | ldl b m | add b m | adl b m
  | sub b m | sbl b m | mui b m | dvi b m => exact .of_finishSeq exit rfl rfl fun quiet => goes_onOperand quiet
  | sta b m | stq b m | stl b m | sau b m | sal b m =>
    exact .of_finishSeq exit rfl rfl fun quiet => goes_onEffective quiet fun a => goes_modifyMem_setCtl quiet rfl
  | siu b m | sil b m =>
    exact .of_finishSeq exit rfl rfl fun quiet => goes_onResolved quiet fun r a => goes_modifyMem_setCtl quiet rfl
  | liu b m | lil b m =>
    exact .of_finishSeq exit rfl rfl fun quiet =>
      goes_onResolved quiet fun r a => goes_readThen quiet fun _ _ => goes_ok _
  | enq b y | ena b y | ina b y | ars b y | als b y | qrs b y | qls b y | lrs b y | lls b y =>
    exact .of_finishSeq exit rfl rfl fun quiet => goes_onEffective quiet fun _ _ => goes_ok _
  | eni b y | ini b y | sca b y | scq b y =>
    exact .of_finishSeq exit rfl rfl fun quiet => goes_onResolved quiet fun _ _ _ => goes_ok _
  | ati b =>
    refine .of_finishSeq exit rfl rfl fun _ go => ?_
    cases b with
    | ix r => exact goes_ok _
    | zero | seven => exact go
  | isk b y => exact .of_finish exit rfl rfl fun quiet => goes_onResolved quiet fun _ _ _ => goes_ok _
  | rad b m | rao b m =>
    exact .of_finishSeq exit rfl rfl fun quiet => goes_replace quiet fun x u => sum_ignoresCtl _ _ u
  | rsb b m | rso b m =>
    exact .of_finishSeq exit rfl rfl fun quiet => goes_replace quiet fun x u => difference_ignoresCtl _ _ u
  | ssk b m => exact .of_finish exit rfl rfl fun quiet => goes_onOperand quiet
  | ssh b m =>
    exact .of_finish exit rfl rfl fun quiet =>
      goes_onEffective quiet fun a => goes_readThen quiet fun x => goes_stored quiet
  | eqs b m | ths b m | meq b m | mth b m =>
    exact .of_finish exit rfl rfl fun quiet => goes_search quiet fun _ _ => rfl
  | arj j m | qrj j m | rtj j m => exact condReturn_refusedAtExit exit rfl rfl
  | srj j m =>
    have passes := passes j m rfl
    exact condReturn_refusedAtExit exit (exec_passes_stop passes).2 (exec_passes_stop (s := s.exitOver) passes).2
  | conn n x c | extf n x c | copy x | ccwd x | clch x =>
    exact .of_finish exit (exec_channelOperation rfl) (exec_channelOperation rfl) fun _ =>
      goes_bind fun _ _ => goes_ok _
  | begr n x m | begw n x m =>
    refine .of_finish exit (exec_channelOperation rfl) (exec_channelOperation rfl) fun quiet =>
      goes_bind fun k go => ?_
    have channel : s.exitOver.chan k = s.chan k := rfl
    rw [channel] at go
    split at go
    next busy => exact ⟨_, if_pos busy⟩
    next idle =>
      rw [if_neg idle]
      exact goes_readThen quiet (fun _ _ => goes_ok _) go
  | sen y => exact execSen_refusedAtExit exit y
  | inf y =>
    refine .of_finishSeq exit rfl rfl fun _ go => ?_
    have listed := internalFunction_isSome_setCtl y.toNat s { s.ctl with exiting := false }
    cases function : internalFunction y.toNat s with
    | some u => exact goes_ok u
    | none =>
      rw [function, Option.isSome_none, Option.isSome_eq_false_iff, Option.isNone_iff_eq_none] at listed
      rw [State.exitOver, listed] at go
      exact (not_goes_error _ go).elim
  | aug v t2 t1 t0 => exact execAug_refusedAtExit exit v t2 t1 t0
  | eub y | elb y => exact boundsElse_refusedAtExit exit fun _ => rfl
  | ldc b p m =>
    exact .of_finish exit rfl rfl fun quiet =>
      goes_onEffective quiet fun a => goes_character fun n => goes_readThen quiet fun _ _ => goes_ok _
  | stc b p m =>
    exact .of_finish exit rfl rfl fun quiet =>
      goes_onEffective quiet fun a => goes_character fun n => goes_readThen quiet fun x => goes_stored quiet
  | fad b m | fsb b m | fmu b m | fdv b m => exact floating_refusedAtExit exit rfl rfl

/-- Only a normal jump or a stop gives a next state at an exit point. -/
theorem exec_exit_next {s t : State} (exit : s.atExit = true) {i : Instr} (h : exec i s = .next t) :
    endsExit i = true ∨ ((∃ j m, i = .srj j m) ∧ t = s.stop) := by
  by_contra other
  obtain ⟨jumps, notStop⟩ := not_or.mp other
  refine (exec_refusedAtExit exit i (Bool.eq_false_iff.mpr jumps) fun j m srj => ?_).stays t h
  by_contra stops
  subst srj
  rw [(exec_stops (Bool.eq_true_of_not_eq_false stops)).2] at h
  cases h
  exact notStop ⟨⟨j, m, rfl⟩, rfl⟩

theorem endsExit_iff (i : Instr) :
    endsExit i = true ↔
      (∃ j m, i = .ajp j m) ∨ (∃ j m, i = .qjp j m) ∨ (∃ j m, i = .slj j m) ∨ (∃ b m, i = .ijp b m) ∨
        ∃ j m, i = .sls j m := by
  cases i <;> simp [endsExit]

/-- Settles O16: the normal jumps one by one, by their one conditional jump; the others by the end that they share. -/
theorem exitPointNeedsJump : Obligations.ExitPointNeedsJump := by
  intro s exit elsewhere lands zero stopped stops forms
  refine ⟨fun quiet m => ?jumps, fun i t h => ?next, fun quiet i t ajp qjp slj ijp sls srj h => ?others⟩
  case jumps =>
    have one (i : Instr) (c : Bool) {holds : Prop} (run : exec i s = condJump c m s) (condition : c = true ↔ holds) :
        forms i m holds := by
      simp only [forms, run, ← condition, Bool.not_eq_true]
      refine ⟨?taken, fun _ out => condJump_exit_outOfBounds exit out c, ?untaken⟩
      case taken =>
        rintro rfl inside
        exact condJump_exit_taken exit quiet inside
      case untaken =>
        rintro rfl
        exact condJump_exit_untaken exit m
    have ajp (j : RegCond) : forms (.ajp j m) m (RegCondHolds j s.a) := one _ _ rfl (regCond_iff j s.a)
    have qjp (j : RegCond) : forms (.qjp j m) m (RegCondHolds j s.q) := one _ _ rfl (regCond_iff j s.q)
    have slj (j : SwCond) : forms (.slj j m) m (JumpCondHolds s j) := one _ _ rfl (jumpCond_iff s j)
    refine ⟨ajp .zero, ajp .nonzero, ajp .positive, ajp .negative, qjp .zero, qjp .nonzero, qjp .positive,
      qjp .negative, slj .always, slj .sw1, slj .sw2, slj .sw3, fun j => ⟨fun h => (exec_stops h).1, fun h => ?sls⟩,
      fun j h => (exec_stops h).2, fun b a => exec_ijp_exit_noRegister exit, fun b a r at_a => ?ijp⟩
    case sls =>
      exact one _ true (exec_passes_stop (Bool.eq_false_iff.mpr h)).1 (iff_of_true rfl trivial)
    case ijp =>
      exact ⟨exec_ijp_negativeZero at_a, exec_ijp_exit_zero exit at_a, fun nonzero counts =>
        ⟨exec_ijp_exit_counts exit at_a nonzero counts quiet, exec_ijp_exit_outOfBounds exit at_a nonzero counts⟩⟩
  case next =>
    have goes := exec_exit_next exit h
    simp only [endsExit_iff, or_assoc] at goes
    exact goes
  case others =>
    have other : endsExit i = false := by
      rw [← Bool.not_eq_true, endsExit_iff]
      rintro (⟨j, m, rfl⟩ | ⟨j, m, rfl⟩ | ⟨j, m, rfl⟩ | ⟨j, m, rfl⟩ | ⟨j, m, rfl⟩)
      · exact ajp j m rfl
      · exact qjp j m rfl
      · exact slj j m rfl
      · exact ijp j m rfl
      · exact sls j m rfl
    exact (exec_refusedAtExit exit i other fun j m h => Bool.eq_false_iff.mpr (srj j m h)).refused quiet t h

end Sys2Proof.Machine
end

section
/-! PROOFS. An interrupt returns to the pointer that it interrupted (spec/60_exceptions.md R378 to R381). -/

namespace Sys2Proof.Machine

/-! ### The word of a fixed location -/

theorem field_setUpperAddr (w : Word) (v : Addr) :
    field (setUpperAddr w v) 24 15 = v ∧ field (setUpperAddr w v) 39 9 = field w 39 9 := by
  constructor
  · refine BitVec.eq_of_getLsbD_eq fun j hj => ?_
    rw [getLsbD_field, setUpperAddr, getLsbD_setField _ _ _ (by decide), if_pos (by omega)]
    simp [hj]
  · refine BitVec.eq_of_getLsbD_eq fun j hj => ?_
    rw [getLsbD_field, getLsbD_field, setUpperAddr, getLsbD_setField _ _ _ (by decide), if_neg (by omega)]

/-- The upper half of a step whose bits 47..39 are 75.0 is an unconditional normal jump to its upper address. -/
theorem decodeAt_upper_jump {w : Word} (code : field w 39 9 = 0o750) :
    decodeAt w .upper = .instr (.slj .always (field w 24 15)) := by
  have function : field w 42 6 = 0o75#6 := by
    rw [← field_field w (lo := 39) (len := 9) (i := 3) (by decide), code]
    rfl
  have half : field w 24 24 = classJBits 0o75#6 0#1 SwCond.always.bits (field w 24 15) := by
    rw [← field_append_field w 39 24 (l1 := 9) (l2 := 15) rfl, code]
    rfl
  have jump : decodeHalf (classJBits 0o75#6 0#1 SwCond.always.bits (field w 24 15)) = _ :=
    decodeInvertsEncode (.slj .always (field w 24 15))
  rw [decodeAt, decodeWhole, function, half, jump]
  rfl

/-- The return address goes into the upper address of the fixed location's word, and the rest of the word stays. -/
theorem hardwareReturnJump_word {s : State} (canonical : s.mem.wf = true) (fixed ret : Addr) :
    field ((s.hardwareReturnJump fixed ret).mem.readWord fixed) 24 15 = ret ∧
      field ((s.hardwareReturnJump fixed ret).mem.readWord fixed) 39 9 = field (s.mem.readWord fixed) 39 9 := by
  have word : (s.hardwareReturnJump fixed ret).mem.readWord fixed = setUpperAddr (s.mem.readWord fixed) ret :=
    s.mem.readWord_writeWord fixed _ canonical
  rw [word]
  exact field_setUpperAddr _ _

/-- The jump that the word at a fixed location becomes by an entry there. -/
theorem decodeAt_hardwareReturnJump {s : State} (canonical : s.mem.wf = true) {fixed : Addr} (ret : Addr)
    (code : field (s.mem.readWord fixed) 39 9 = 0o750) :
    decodeAt ((s.hardwareReturnJump fixed ret).mem.readWord fixed) .upper = .instr (.slj .always ret) := by
  obtain ⟨address, kept⟩ := hardwareReturnJump_word canonical fixed ret
  rw [decodeAt_upper_jump (kept.trans code), address]

/-! ### The step at the exit point -/

/-- In the upper half no augment designator ends. -/
theorem State.completed_upper {s : State} (upper : s.half = .upper) (t : State) :
    s.completed t = if t.pending then t.enter .one else t := by
  rw [State.completed, upper]
  rfl

/-- A running computer that enters an exit point at a step with an unconditional jump lands at the jump's target, in the
half that the exit selects. -/
theorem step_exit {r : State} {c : IntCtl} {target : Addr} (env : r.env = []) (quiet : r.inter = [])
    (running : r.running = true) (unheld : r.uHeld = false) (upper : r.half = .upper)
    (inside : r.outOfBounds r.p = false) (installed : r.installed r.p = true)
    (jump : decodeAt (r.mem.readWord r.p) .upper = .instr (.slj .always target))
    (check : (r.setU (r.mem.readWord r.p)).exitCheck = (r.setU (r.mem.readWord r.p)).setCtl c)
    (exiting : c.exiting = true) {back : State}
    (lands : back = (((r.setU (r.mem.readWord r.p)).setP target).setHalf (if c.exitSel then .lower else .upper)).setCtl
      { c with exiting := false })
    (targetInside : back.outOfBounds target = false) :
    step r = .next (if back.pending then back.enter .one else back) := by
  have runs := ((stepRunsInstruction r _ env running).2 unheld quiet inside installed (by rwa [upper])).2 upper
  rw [check] at runs
  generalize atStep : (r.setU (r.mem.readWord r.p)).setCtl c = u at runs
  have exit : u.atExit = true := by
    subst atStep
    simp [State.atExit, exiting, upper]
  have upperHere : u.half = .upper := u.half_of_atExit exit
  have landed : (u.goto target .upper).exitLand = back := by
    have read : r.setUHeld false = r := by
      rw [← unheld]
      rfl
    rw [lands, ← atStep]
    conv_rhs => rw [← read]
    rfl
  have taken : exec (.slj .always target) u = .next (u.completed back) := by
    rw [← landed]
    subst atStep lands
    exact condJump_exit_taken exit quiet targetInside
  rw [runs, taken, State.completed_upper upperHere]

theorem State.advance_mem (s : State) : s.advance.mem = s.mem := congrArg Guard.mem s.guard_advance

/-- The Exit flip-flop holds a half. -/
theorem half_eq_ite (h : Half) : h = if decide (h = .lower) = true then .lower else .upper := by
  cases h <;> rfl

/-- Settles O15: the entry makes the word of its fixed location a jump to the pointer that it found, and the step
entered there is the exit point of that jump. -/
theorem interruptRoundTrip : Obligations.InterruptRoundTrip := by
  intro s r canonical env quiet running unheld upper returns
  refine ⟨fun code word exit1 pointer mode lock inside => ?one, fun k => ?two⟩
  case one =>
    have exits : r.ctl.exit1 = decide (s.half = .lower) := exit1
    refine step_exit env quiet running unheld upper
      (c := { r.ctl with lock1 := false, mode1 := false, exitSel := r.ctl.exit1, exiting := true })
      ?inside ?installed ?jump (if_pos ⟨mode, pointer⟩) rfl ?lands inside
    case inside => simp [State.outOfBounds, State.boundsInEffect, lock]
    case installed => simp [State.installed, pointer]
    case jump =>
      rw [pointer, word]
      exact decodeAt_hardwareReturnJump (s := s.setCtl _) canonical s.p code
    case lands =>
      dsimp only
      rw [exits, ← half_eq_ite, pointer]
  case two =>
    intro a code word exit2 cat2 pointer mode here inside
    have exits : r.ctl.exit2 = decide (s.advance.half = .lower) := exit2
    have notOne : r.p ≠ 0o7 := by
      rw [pointer]
      cases k <;> decide
    refine step_exit env quiet running unheld upper
      (c := { r.ctl with mode2 := false, exitSel := r.ctl.exit2, exiting := true })
      (by rwa [pointer]) ?installed ?jump ?check rfl ?lands inside
    case installed =>
      rw [State.installed, pointer]
      cases k <;> simp [a, fixedLocation]
    case jump =>
      rw [pointer, word]
      rw [← s.advance_mem] at canonical code
      exact decodeAt_hardwareReturnJump (s := s.advance.setCtl _) canonical s.advance.p code
    case check =>
      rw [State.exitCheck, if_neg fun h => notOne h.2]
      exact if_pos ⟨mode, pointer.trans cat2.symm⟩
    case lands =>
      dsimp only
      rw [exits, ← half_eq_ite, pointer]

end Sys2Proof.Machine
end

section
/-! PROOFS. The entries of Categories I and III, and the manual and the time interrupt (spec/60_exceptions.md R375 to
R378, R382, R393 to R395). -/

namespace Sys2Proof.Machine

/-! ### The sampling point -/

theorem State.pending_iff (s : State) :
    s.pending = true ↔ s.ctl.active = true ∧ s.ctl.lock1 = false ∧ s.interrupt &&& s.mask ≠ 0 := by
  simp only [State.pending, Bool.and_eq_true, Bool.not_eq_true', decide_eq_true_eq, and_assoc]
  rfl

theorem State.endAug_eq (h : Half) (s : State) : s.endAug h = if h = .lower then s.setAug .none else s := by
  cases h <;> rfl

/-- Settles O13: the sampling point after the end of the augment designators. -/
theorem categoryOneEntry : Obligations.CategoryOneEntry := by
  intro s t e
  have ended : t.endAug s.half = e := State.endAug_eq s.half t
  rw [State.completed, ended, ← State.pending_iff]
  exact ⟨fun pending => if_pos pending, fun quiet => if_neg quiet⟩

/-! ### Category III in place of an illegal code -/

theorem executeU_illegal {s : State} (ready : s.Ready) (illegal : decodeAt s.u s.half = .illegal) :
    executeU s = .next (s.completed (s.enter .three)) := by
  simp only [executeU, illegal, takeInterrupt_ready .three ready.1]
  exact finish_of ready rfl

/-- The exit check writes flip-flops of the interrupt system only. -/
theorem State.exitCheck_eq_setCtl (s : State) : s.exitCheck = s.setCtl s.exitCheck.ctl := by
  unfold State.exitCheck
  split_ifs <;> rfl

/-- A step that is entered at no exit point. -/
theorem State.entered_eq_setU {s : State} {w : Word} (noExit : s.half = .upper → (s.setU w).exitCheck.ctl = s.ctl) :
    s.entered w = s.setU w := by
  cases half : s.half with
  | upper =>
    rw [State.entered_upper w half, State.exitCheck_eq_setCtl, noExit half]
    rfl
  | lower => exact State.entered_lower w half

/-- Settles O7: from U at once, or through the step at P, which the exit check leaves as it is. -/
theorem illegalCodeTrap : Obligations.IllegalCodeTrap := by
  intro s env running ready trap
  rw [step_idle env running, runInstruction]
  refine ⟨fun held illegal => ?_, fun unheld inside installed illegal noExit => ?_⟩
  · rw [if_pos held]
    exact executeU_illegal ready illegal
  · rw [if_neg (by simp [unheld]), enterStep_ready ready.1 inside installed, State.entered_eq_setU noExit]
    exact executeU_illegal (s := s.setU _) ready illegal

/-! ### A program step out of bounds -/

theorem State.getLsbD_interrupt_setFault (s : State) {n : Nat}
    (flipFlop : n ∈ [1, 2, 3, 4, 5, 10, 11, 12, 13, 20, 21, 22, 23, 42, 43, 44, 45, 46]) :
    (s.setFault n).interrupt.getLsbD n = true := by
  have inWord : n < 48 := by
    simp only [List.mem_cons, List.not_mem_nil, or_false] at flipFlop
    omega
  have set : (s.setFault n).intr.getLsbD n = (s.intr.getLsbD n || (bitWord n).getLsbD n) := BitVec.getLsbD_or
  rw [State.getLsbD_interrupt, getLsbD_flipFlops, decide_eq_true flipFlop, set, getLsbD_bitWord n n inWord]
  simp

/-- Settles O8: the bounds check before the read turns to Category I. -/
theorem outOfBoundsFetch : Obligations.OutOfBoundsFetch := by
  intro s env running unheld quiet outside
  refine ⟨?_, s.getLsbD_interrupt_setFault (by decide)⟩
  rw [step_idle env running, runInstruction, if_neg (by simp [unheld]), enterStep, if_pos outside,
    takeInterrupt_ready (s := s.setFault 42) .one quiet]
  rfl

/-! ### The console and the power line -/

theorem unlessLocked_unlocked {s : State} (unlocked : s.console.systemActive = true ∨ s.console.maintenance = true)
    (o : Out) : unlessLocked s o = o := by
  refine if_neg fun locked => ?_
  obtain ⟨inactive, noMaintenance⟩ := s.console.locked_iff.mp locked
  simp [inactive, noMaintenance] at unlocked

/-- Settles O26: the two events, each with its condition. -/
theorem manualAndTimeInterrupts : Obligations.ManualAndTimeInterrupts := by
  refine fun s rest => ⟨fun env unlocked => ?_, fun env => ?_⟩
  · simp only [step, env, handle]
    exact unlessLocked_unlocked (s := s.setEnv rest) unlocked _
  · simp only [step, env]
    rfl

end Sys2Proof.Machine
end

section
/-! PROOFS. The two master clears and the Restart switch (spec/70_reset_and_hazards.md R420 to R423). -/

namespace Sys2Proof.Machine

/-- Settles O23: the registers that the internal master clear writes, read back. -/
theorem internalMasterClear : Obligations.InternalMasterClear := fun _ =>
  ⟨rfl, rfl, rfl, rfl, rfl, rfl, rfl, rfl, rfl, rfl, rfl, rfl, rfl, rfl, rfl, rfl, rfl⟩

/-! ### The equipments of an external master clear -/

/-- The equipments of the machine after the external master clear of channel x, which stands as in `k`: those of an
active channel see the operation's end first (log 31). -/
def masterClearedEquip (k : Channel) (installed : Bool) (x : ChanId) (es : List Attached) : List Attached :=
  if installed = true then
    onChannel x (fun e => e.device.masterClear)
      (if k.active = true then onChannel x (fun e => e.device.endTransfer k.dir) es else es)
  else es

theorem State.masterClearAt_equip {s : State} (idle : s.autoLoading = none) (x : ChanId) :
    (s.masterClearAt x).equip = masterClearedEquip (s.chan x) (s.chanInstalled x) x s.equip := by
  unfold masterClearedEquip
  cases installed : s.chanInstalled x with
  | false => rw [State.masterClearAt_absent installed, if_neg (by simp)]
  | true =>
    rw [State.masterClearAt, if_pos installed, State.clearWith_eq _ (by simp [idle]), if_pos rfl]
    rfl

/-- Of different channels each is cleared as it stood before the first clear. -/
theorem foldl_masterClearAt_equip {xs : List ChanId} (nodup : xs.Nodup) {s : State} (idle : s.autoLoading = none) :
    (xs.foldl State.masterClearAt s).equip =
      xs.foldl (fun es x => masterClearedEquip (s.chan x) (s.chanInstalled x) x es) s.equip := by
  induction xs generalizing s with
  | nil => rfl
  | cons x xs ih =>
    obtain ⟨fresh, nodup⟩ := List.nodup_cons.mp nodup
    rw [List.foldl_cons, ih nodup (State.masterClearAt_autoLoading idle x), List.foldl_cons,
      State.masterClearAt_equip idle]
    refine List.foldl_ext _ _ _ fun es y hy => ?_
    have other : y ≠ x := fun same => fresh (same ▸ hy)
    rw [State.masterClearAt_chan idle, if_neg fun h => other h.1, State.masterClearAt_chanInstalled idle]

theorem State.externalMasterClear_equip {s : State} (idle : s.autoLoading = none) :
    s.externalMasterClear.equip =
      [ChanId.c0, .c1, .c2, .c3].foldl
        (fun es x => masterClearedEquip (s.chan x) (s.chanInstalled x) x es) s.equip := by
  rw [State.externalMasterClear_eq_foldl]
  exact foldl_masterClearAt_equip (by decide) idle

/-! ### The Interrupt register of an external master clear -/

theorem ChanId.ofDigit_index (x : ChanId) : ChanId.ofDigit (BitVec.ofNat 3 x.index) = some x := by
  cases x <;> rfl

theorem ChanId.index_injective {x y : ChanId} (h : x.index = y.index) : x = y :=
  Option.some.inj (by rw [← x.ofDigit_index, h, y.ofDigit_index])

section
variable {s : State} (idle : s.autoLoading = none)
include idle

theorem State.externalMasterClear_end {x : ChanId} (installed : s.chanInstalled x = true) :
    s.externalMasterClear.intr.getLsbD (10 + x.index) =
      (s.intr.getLsbD (10 + x.index) || (s.chan x).active) := by
  rw [Bool.eq_iff_iff, State.externalMasterClear_intr idle, Bool.or_eq_true]
  have noParity (y : ChanId) : 10 + x.index ≠ 20 + y.index := by
    have := x.index_lt
    omega
  constructor
  · rintro (⟨set, -⟩ | ⟨y, -, active, same⟩)
    · exact .inl set
    · obtain rfl := ChanId.index_injective (Nat.add_left_cancel same)
      exact .inr active
  · rintro (set | active)
    · exact .inl ⟨set, fun y _ => noParity y⟩
    · exact .inr ⟨x, installed, active, rfl⟩

theorem State.externalMasterClear_parity {x : ChanId} (installed : s.chanInstalled x = true) :
    s.externalMasterClear.intr.getLsbD (20 + x.index) = false := by
  rw [← Bool.not_eq_true, State.externalMasterClear_intr idle]
  rintro (⟨-, others⟩ | ⟨y, -, -, same⟩)
  · exact others x installed rfl
  · have := y.index_lt
    omega

theorem State.externalMasterClear_other {n : Nat}
    (other : ∀ x, s.chanInstalled x = true → n ≠ 10 + x.index ∧ n ≠ 20 + x.index) :
    s.externalMasterClear.intr.getLsbD n = s.intr.getLsbD n := by
  rw [Bool.eq_iff_iff, State.externalMasterClear_intr idle]
  constructor
  · rintro (⟨set, -⟩ | ⟨x, installed, -, ended⟩)
    · exact set
    · exact absurd ended (other x installed).1
  · exact fun set => .inl ⟨set, fun x installed => (other x installed).2⟩

end

/-- Settles O24: the channels, the Interrupt register and the equipments, and a frame for the rest. -/
theorem externalMasterClear : Obligations.ExternalMasterClear := by
  intro s idle t ends
  have chan (x : ChanId) := State.externalMasterClear_chan idle x
  refine ⟨fun x installed => ⟨(chan x).trans (if_pos installed), State.externalMasterClear_end idle installed,
      State.externalMasterClear_parity idle installed⟩,
    fun x absent => (chan x).trans (if_neg (Bool.eq_false_iff.mp absent)),
    fun n => State.externalMasterClear_other idle, State.externalMasterClear_equip idle, ?frame⟩
  case frame =>
    obtain ⟨cs, i, es, frame⟩ := State.externalMasterClear_frame idle
    simp only [t, frame]
    exact ⟨rfl, rfl, rfl, rfl, rfl, rfl, rfl, rfl, rfl, rfl, rfl, rfl⟩

/-! ### The Restart switch -/

theorem step_restart {s : State} {rest : List Event} (env : s.env = .restart :: rest)
    (unlocked : s.console.systemActive = true ∨ s.console.maintenance = true) :
    step s = .next (s.setEnv rest).restart := by
  simp only [step, env, handle]
  exact unlessLocked_unlocked (s := s.setEnv rest) unlocked _

/-- The return jump of the switch, from the state `t` of its external master clear (R423). -/
theorem State.restart_eq {s t : State}
    (clear : (((s.setRunning false).setSlsStopped false).setAutoLoading none).externalMasterClear = t) :
    s.restart =
      ((((((t.setCtl { t.ctl with active := false, exiting := false }).setMem
        (t.mem.writeWord 0 (setField (t.mem.readWord 0) 24 (t.p + 1)))).setP 0).setHalf .lower).setUHeld
          false).setAug .none).setRunning true := by
  subst clear
  rfl

/-- Settles O25: a halted computer's external master clear leaves the registers and storage, and the return jump writes
the pointer and location 00000 only. -/
theorem restartSwitch : Obligations.RestartSwitch := by
  intro s rest env unlocked canonical
  have idle : ((((s.setEnv rest).setRunning false).setSlsStopped false).setAutoLoading none).autoLoading = none := rfl
  have chan := State.externalMasterClear_chan idle
  have next := step_restart env unlocked
  obtain ⟨cs, i, es, frame⟩ := State.externalMasterClear_frame idle
  rw [State.restart_eq frame] at next
  rw [frame] at chan
  have channels (x : ChanId) (installed : s.chanInstalled x = true) :
      (cs.get x).active = false ∧ (cs.get x).conn = none ∧ (cs.get x).wc = 0 ∧ (cs.get x).ca = 0 := by
    have cleared : cs.get x = { s.chan x with active := false, conn := none, wc := 0, ca := 0 } :=
      (chan x).trans (if_pos installed)
    simp [cleared]
  exact ⟨_, next, by simpa [State.chan] using channels⟩

end Sys2Proof.Machine
end
